-- ==== Sys2Proof/Word.lean ====
section
/-! DEFINITION. The byte and the 16-bit word (00_scope.md R7: "the general registers are 8 bits;
PC and SP are 16 bits; ... addresses are 16 bits"). -/

namespace Sys2Proof

/-- One byte (R7, R31). -/
abbrev Byte := BitVec 8

/-- A 16-bit value: PC, SP, a register pair, an address (R7, R32). -/
abbrev Word := BitVec 16

end Sys2Proof
end

