-- ==== Sys2Proof/Machine/Bits.lean ====
section
/-! DEFINITION. The bit-field, extension and byte-order helpers of 00_scope.md R12 and R13. -/

namespace Sys2Proof

/-- `v[7:0]` of a word. -/
def lo (w : Word) : Byte := w.setWidth 8

/-- `v[15:8]` of a word. -/
def hi (w : Word) : Byte := w.extractLsb' 8 8

/-- The concatenation `{h, l}` (R12): `h` in the high bits. -/
def word (h l : Byte) : Word := h ++ l

/-- `zext_16` (R13). -/
def zext (v : Byte) : Word := v.setWidth 16

/-- `sext_16` (R13): the sign is the byte's top bit. -/
def sext (v : Byte) : Word := v.signExtend 16

/-- The high-page address `0xFF00 + zext_16(n)` (R140). -/
def highPage (n : Byte) : Word := 0xFF00 + zext n

/-- Bit `i` of a byte (R12). -/
def bit (v : Byte) (i : Nat) : Bool := v.getLsbD i

/-- `v` with bit `i` cleared: `v & ~(1 << i)`. -/
def clearBit (v : Byte) (i : Nat) : Byte := v &&& ~~~((1 : Byte) <<< i)

/-- `v` with bit `i` set: `v | (1 << i)`. -/
def putBit (v : Byte) (i : Nat) : Byte := v ||| ((1 : Byte) <<< i)

/-- A byte that is `v` where the flag holds and 0 where it does not. -/
def mask (p : Bool) (v : Byte) : Byte := if p then v else 0

end Sys2Proof
end

