-- ==== Sys2Proof/Syntax.lean ====
section
/-! DEFINITION. The instructions: one constructor for each of the 512 rows of spec/opcode_table.json
(30_encoding.md R142 and R143). A constructor's docstring gives the spec's spelling and its rule.
`n` and `nn` are unsigned immediates, `e` the displacement byte (R140). The rows with an operand
come first (Lean's compiler allows operands on the first constructors of a type only), then the
others in the table's order. -/

namespace Sys2Proof

/-- The instruction set (R2): the 256 base bytes and the 256 CB instructions. -/
inductive Instr where
  /-- `LD BC,nn` (R220). -/
  | ldBcNn (nn : Word)
  /-- `LD B,n` (R202). -/
  | ldBN (n : Byte)
  /-- `LD (nn),SP` (R221). -/
  | ldIndNnSp (nn : Word)
  /-- `LD C,n` (R202). -/
  | ldCN (n : Byte)
  /-- `STOP` with the byte it skips (R152, R377). -/
  | stop (skipped : Byte)
  /-- `LD DE,nn` (R220). -/
  | ldDeNn (nn : Word)
  /-- `LD D,n` (R202). -/
  | ldDN (n : Byte)
  /-- `JR e` (R346). -/
  | jrE (e : Byte)
  /-- `LD E,n` (R202). -/
  | ldEN (n : Byte)
  /-- `JR NZ,e` (R347). -/
  | jrNzE (e : Byte)
  /-- `LD HL,nn` (R220). -/
  | ldHlNn (nn : Word)
  /-- `LD H,n` (R202). -/
  | ldHN (n : Byte)
  /-- `JR Z,e` (R347). -/
  | jrZE (e : Byte)
  /-- `LD L,n` (R202). -/
  | ldLN (n : Byte)
  /-- `JR NC,e` (R347). -/
  | jrNcE (e : Byte)
  /-- `LD SP,nn` (R220). -/
  | ldSpNn (nn : Word)
  /-- `LD (HL),n` (R205). -/
  | ldIndHlN (n : Byte)
  /-- `JR C,e` (R347). -/
  | jrCE (e : Byte)
  /-- `LD A,n` (R202). -/
  | ldAN (n : Byte)
  /-- `JP NZ,nn` (R344). -/
  | jpNzNn (nn : Word)
  /-- `JP nn` (R343). -/
  | jpNn (nn : Word)
  /-- `CALL NZ,nn` (R349). -/
  | callNzNn (nn : Word)
  /-- `ADD A,n` (R246). -/
  | addAN (n : Byte)
  /-- `JP Z,nn` (R344). -/
  | jpZNn (nn : Word)
  /-- The prefix byte with the byte after it (R154, R373): not itself an instruction, so never well-formed. -/
  | prefixCb (op2 : Byte)
  /-- `CALL Z,nn` (R349). -/
  | callZNn (nn : Word)
  /-- `CALL nn` (R348). -/
  | callNn (nn : Word)
  /-- `ADC A,n` (R249). -/
  | adcAN (n : Byte)
  /-- `JP NC,nn` (R344). -/
  | jpNcNn (nn : Word)
  /-- `CALL NC,nn` (R349). -/
  | callNcNn (nn : Word)
  /-- `SUB A,n` (R252). -/
  | subAN (n : Byte)
  /-- `JP C,nn` (R344). -/
  | jpCNn (nn : Word)
  /-- `CALL C,nn` (R349). -/
  | callCNn (nn : Word)
  /-- `SBC A,n` (R255). -/
  | sbcAN (n : Byte)
  /-- `LDH (n),A` (R215). -/
  | ldhIndNA (n : Byte)
  /-- `AND A,n` (R258). -/
  | andAN (n : Byte)
  /-- `ADD SP,e` (R224). -/
  | addSpE (e : Byte)
  /-- `LD (nn),A` (R211). -/
  | ldIndNnA (nn : Word)
  /-- `XOR A,n` (R261). -/
  | xorAN (n : Byte)
  /-- `LDH A,(n)` (R214). -/
  | ldhAIndN (n : Byte)
  /-- `OR A,n` (R264). -/
  | orAN (n : Byte)
  /-- `LD HL,SP+e` (R223). -/
  | ldHlSpE (e : Byte)
  /-- `LD A,(nn)` (R210). -/
  | ldAIndNn (nn : Word)
  /-- `CP A,n` (R267). -/
  | cpAN (n : Byte)
  /-- `NOP` (R295). -/
  | nop
  /-- `LD (BC),A` (R208). -/
  | ldIndBcA
  /-- `INC BC` (R277). -/
  | incBc
  /-- `INC B` (R279). -/
  | incB
  /-- `DEC B` (R280). -/
  | decB
  /-- `RLCA` (R331). -/
  | rlca
  /-- `ADD HL,BC` (R276). -/
  | addHlBc
  /-- `LD A,(BC)` (R206). -/
  | ldAIndBc
  /-- `DEC BC` (R278). -/
  | decBc
  /-- `INC C` (R279). -/
  | incC
  /-- `DEC C` (R280). -/
  | decC
  /-- `RRCA` (R332). -/
  | rrca
  /-- `LD (DE),A` (R209). -/
  | ldIndDeA
  /-- `INC DE` (R277). -/
  | incDe
  /-- `INC D` (R279). -/
  | incD
  /-- `DEC D` (R280). -/
  | decD
  /-- `RLA` (R333). -/
  | rla
  /-- `ADD HL,DE` (R276). -/
  | addHlDe
  /-- `LD A,(DE)` (R207). -/
  | ldAIndDe
  /-- `DEC DE` (R278). -/
  | decDe
  /-- `INC E` (R279). -/
  | incE
  /-- `DEC E` (R280). -/
  | decE
  /-- `RRA` (R334). -/
  | rra
  /-- `LD (HL+),A` (R218). -/
  | ldIndHlIncA
  /-- `INC HL` (R277). -/
  | incHl
  /-- `INC H` (R279). -/
  | incH
  /-- `DEC H` (R280). -/
  | decH
  /-- `DAA` (R291). -/
  | daa
  /-- `ADD HL,HL` (R276). -/
  | addHlHl
  /-- `LD A,(HL+)` (R216). -/
  | ldAIndHlInc
  /-- `DEC HL` (R278). -/
  | decHl
  /-- `INC L` (R279). -/
  | incL
  /-- `DEC L` (R280). -/
  | decL
  /-- `CPL` (R292). -/
  | cpl
  /-- `LD (HL-),A` (R219). -/
  | ldIndHlDecA
  /-- `INC SP` (R277). -/
  | incSp
  /-- `INC (HL)` (R281). -/
  | incIndHl
  /-- `DEC (HL)` (R282). -/
  | decIndHl
  /-- `SCF` (R293). -/
  | scf
  /-- `ADD HL,SP` (R276). -/
  | addHlSp
  /-- `LD A,(HL-)` (R217). -/
  | ldAIndHlDec
  /-- `DEC SP` (R278). -/
  | decSp
  /-- `INC A` (R279). -/
  | incA
  /-- `DEC A` (R280). -/
  | decA
  /-- `CCF` (R294). -/
  | ccf
  /-- `LD B,B` (R201). -/
  | ldBB
  /-- `LD B,C` (R201). -/
  | ldBC
  /-- `LD B,D` (R201). -/
  | ldBD
  /-- `LD B,E` (R201). -/
  | ldBE
  /-- `LD B,H` (R201). -/
  | ldBH
  /-- `LD B,L` (R201). -/
  | ldBL
  /-- `LD B,(HL)` (R203). -/
  | ldBIndHl
  /-- `LD B,A` (R201). -/
  | ldBA
  /-- `LD C,B` (R201). -/
  | ldCB
  /-- `LD C,C` (R201). -/
  | ldCC
  /-- `LD C,D` (R201). -/
  | ldCD
  /-- `LD C,E` (R201). -/
  | ldCE
  /-- `LD C,H` (R201). -/
  | ldCH
  /-- `LD C,L` (R201). -/
  | ldCL
  /-- `LD C,(HL)` (R203). -/
  | ldCIndHl
  /-- `LD C,A` (R201). -/
  | ldCA
  /-- `LD D,B` (R201). -/
  | ldDB
  /-- `LD D,C` (R201). -/
  | ldDC
  /-- `LD D,D` (R201). -/
  | ldDD
  /-- `LD D,E` (R201). -/
  | ldDE
  /-- `LD D,H` (R201). -/
  | ldDH
  /-- `LD D,L` (R201). -/
  | ldDL
  /-- `LD D,(HL)` (R203). -/
  | ldDIndHl
  /-- `LD D,A` (R201). -/
  | ldDA
  /-- `LD E,B` (R201). -/
  | ldEB
  /-- `LD E,C` (R201). -/
  | ldEC
  /-- `LD E,D` (R201). -/
  | ldED
  /-- `LD E,E` (R201). -/
  | ldEE
  /-- `LD E,H` (R201). -/
  | ldEH
  /-- `LD E,L` (R201). -/
  | ldEL
  /-- `LD E,(HL)` (R203). -/
  | ldEIndHl
  /-- `LD E,A` (R201). -/
  | ldEA
  /-- `LD H,B` (R201). -/
  | ldHB
  /-- `LD H,C` (R201). -/
  | ldHC
  /-- `LD H,D` (R201). -/
  | ldHD
  /-- `LD H,E` (R201). -/
  | ldHE
  /-- `LD H,H` (R201). -/
  | ldHH
  /-- `LD H,L` (R201). -/
  | ldHL
  /-- `LD H,(HL)` (R203). -/
  | ldHIndHl
  /-- `LD H,A` (R201). -/
  | ldHA
  /-- `LD L,B` (R201). -/
  | ldLB
  /-- `LD L,C` (R201). -/
  | ldLC
  /-- `LD L,D` (R201). -/
  | ldLD
  /-- `LD L,E` (R201). -/
  | ldLE
  /-- `LD L,H` (R201). -/
  | ldLH
  /-- `LD L,L` (R201). -/
  | ldLL
  /-- `LD L,(HL)` (R203). -/
  | ldLIndHl
  /-- `LD L,A` (R201). -/
  | ldLA
  /-- `LD (HL),B` (R204). -/
  | ldIndHlB
  /-- `LD (HL),C` (R204). -/
  | ldIndHlC
  /-- `LD (HL),D` (R204). -/
  | ldIndHlD
  /-- `LD (HL),E` (R204). -/
  | ldIndHlE
  /-- `LD (HL),H` (R204). -/
  | ldIndHlH
  /-- `LD (HL),L` (R204). -/
  | ldIndHlL
  /-- `HALT` (R376). -/
  | halt
  /-- `LD (HL),A` (R204). -/
  | ldIndHlA
  /-- `LD A,B` (R201). -/
  | ldAB
  /-- `LD A,C` (R201). -/
  | ldAC
  /-- `LD A,D` (R201). -/
  | ldAD
  /-- `LD A,E` (R201). -/
  | ldAE
  /-- `LD A,H` (R201). -/
  | ldAH
  /-- `LD A,L` (R201). -/
  | ldAL
  /-- `LD A,(HL)` (R203). -/
  | ldAIndHl
  /-- `LD A,A` (R201). -/
  | ldAA
  /-- `ADD A,B` (R244). -/
  | addAB
  /-- `ADD A,C` (R244). -/
  | addAC
  /-- `ADD A,D` (R244). -/
  | addAD
  /-- `ADD A,E` (R244). -/
  | addAE
  /-- `ADD A,H` (R244). -/
  | addAH
  /-- `ADD A,L` (R244). -/
  | addAL
  /-- `ADD A,(HL)` (R245). -/
  | addAIndHl
  /-- `ADD A,A` (R244). -/
  | addAA
  /-- `ADC A,B` (R247). -/
  | adcAB
  /-- `ADC A,C` (R247). -/
  | adcAC
  /-- `ADC A,D` (R247). -/
  | adcAD
  /-- `ADC A,E` (R247). -/
  | adcAE
  /-- `ADC A,H` (R247). -/
  | adcAH
  /-- `ADC A,L` (R247). -/
  | adcAL
  /-- `ADC A,(HL)` (R248). -/
  | adcAIndHl
  /-- `ADC A,A` (R247). -/
  | adcAA
  /-- `SUB A,B` (R250). -/
  | subAB
  /-- `SUB A,C` (R250). -/
  | subAC
  /-- `SUB A,D` (R250). -/
  | subAD
  /-- `SUB A,E` (R250). -/
  | subAE
  /-- `SUB A,H` (R250). -/
  | subAH
  /-- `SUB A,L` (R250). -/
  | subAL
  /-- `SUB A,(HL)` (R251). -/
  | subAIndHl
  /-- `SUB A,A` (R250). -/
  | subAA
  /-- `SBC A,B` (R253). -/
  | sbcAB
  /-- `SBC A,C` (R253). -/
  | sbcAC
  /-- `SBC A,D` (R253). -/
  | sbcAD
  /-- `SBC A,E` (R253). -/
  | sbcAE
  /-- `SBC A,H` (R253). -/
  | sbcAH
  /-- `SBC A,L` (R253). -/
  | sbcAL
  /-- `SBC A,(HL)` (R254). -/
  | sbcAIndHl
  /-- `SBC A,A` (R253). -/
  | sbcAA
  /-- `AND A,B` (R256). -/
  | andAB
  /-- `AND A,C` (R256). -/
  | andAC
  /-- `AND A,D` (R256). -/
  | andAD
  /-- `AND A,E` (R256). -/
  | andAE
  /-- `AND A,H` (R256). -/
  | andAH
  /-- `AND A,L` (R256). -/
  | andAL
  /-- `AND A,(HL)` (R257). -/
  | andAIndHl
  /-- `AND A,A` (R256). -/
  | andAA
  /-- `XOR A,B` (R259). -/
  | xorAB
  /-- `XOR A,C` (R259). -/
  | xorAC
  /-- `XOR A,D` (R259). -/
  | xorAD
  /-- `XOR A,E` (R259). -/
  | xorAE
  /-- `XOR A,H` (R259). -/
  | xorAH
  /-- `XOR A,L` (R259). -/
  | xorAL
  /-- `XOR A,(HL)` (R260). -/
  | xorAIndHl
  /-- `XOR A,A` (R259). -/
  | xorAA
  /-- `OR A,B` (R262). -/
  | orAB
  /-- `OR A,C` (R262). -/
  | orAC
  /-- `OR A,D` (R262). -/
  | orAD
  /-- `OR A,E` (R262). -/
  | orAE
  /-- `OR A,H` (R262). -/
  | orAH
  /-- `OR A,L` (R262). -/
  | orAL
  /-- `OR A,(HL)` (R263). -/
  | orAIndHl
  /-- `OR A,A` (R262). -/
  | orAA
  /-- `CP A,B` (R265). -/
  | cpAB
  /-- `CP A,C` (R265). -/
  | cpAC
  /-- `CP A,D` (R265). -/
  | cpAD
  /-- `CP A,E` (R265). -/
  | cpAE
  /-- `CP A,H` (R265). -/
  | cpAH
  /-- `CP A,L` (R265). -/
  | cpAL
  /-- `CP A,(HL)` (R266). -/
  | cpAIndHl
  /-- `CP A,A` (R265). -/
  | cpAA
  /-- `RET NZ` (R351). -/
  | retNz
  /-- `POP BC` (R355). -/
  | popBc
  /-- `PUSH BC` (R354). -/
  | pushBc
  /-- `RST 0x00` (R353). -/
  | rst00
  /-- `RET Z` (R351). -/
  | retZ
  /-- `RET` (R350). -/
  | ret
  /-- `RST 0x08` (R353). -/
  | rst08
  /-- `RET NC` (R351). -/
  | retNc
  /-- `POP DE` (R355). -/
  | popDe
  /-- The byte 0xD3, which has no instruction (R150, R378). -/
  | illegalD3
  /-- `PUSH DE` (R354). -/
  | pushDe
  /-- `RST 0x10` (R353). -/
  | rst10
  /-- `RET C` (R351). -/
  | retC
  /-- `RETI` (R352). -/
  | reti
  /-- The byte 0xDB, which has no instruction (R150, R378). -/
  | illegalDB
  /-- The byte 0xDD, which has no instruction (R150, R378). -/
  | illegalDD
  /-- `RST 0x18` (R353). -/
  | rst18
  /-- `POP HL` (R355). -/
  | popHl
  /-- `LD (C),A` (R213). -/
  | ldIndCA
  /-- The byte 0xE3, which has no instruction (R150, R378). -/
  | illegalE3
  /-- The byte 0xE4, which has no instruction (R150, R378). -/
  | illegalE4
  /-- `PUSH HL` (R354). -/
  | pushHl
  /-- `RST 0x20` (R353). -/
  | rst20
  /-- `JP HL` (R345). -/
  | jpHl
  /-- The byte 0xEB, which has no instruction (R150, R378). -/
  | illegalEB
  /-- The byte 0xEC, which has no instruction (R150, R378). -/
  | illegalEC
  /-- The byte 0xED, which has no instruction (R150, R378). -/
  | illegalED
  /-- `RST 0x28` (R353). -/
  | rst28
  /-- `POP AF` (R355). -/
  | popAf
  /-- `LD A,(C)` (R212). -/
  | ldAIndC
  /-- `DI` (R375). -/
  | di
  /-- The byte 0xF4, which has no instruction (R150, R378). -/
  | illegalF4
  /-- `PUSH AF` (R354). -/
  | pushAf
  /-- `RST 0x30` (R353). -/
  | rst30
  /-- `LD SP,HL` (R222). -/
  | ldSpHl
  /-- `EI` (R374). -/
  | ei
  /-- The byte 0xFC, which has no instruction (R150, R378). -/
  | illegalFC
  /-- The byte 0xFD, which has no instruction (R150, R378). -/
  | illegalFD
  /-- `RST 0x38` (R353). -/
  | rst38
  /-- `RLC B` (R303). -/
  | rlcB
  /-- `RLC C` (R303). -/
  | rlcC
  /-- `RLC D` (R303). -/
  | rlcD
  /-- `RLC E` (R303). -/
  | rlcE
  /-- `RLC H` (R303). -/
  | rlcH
  /-- `RLC L` (R303). -/
  | rlcL
  /-- `RLC (HL)` (R304). -/
  | rlcIndHl
  /-- `RLC A` (R303). -/
  | rlcA
  /-- `RRC B` (R305). -/
  | rrcB
  /-- `RRC C` (R305). -/
  | rrcC
  /-- `RRC D` (R305). -/
  | rrcD
  /-- `RRC E` (R305). -/
  | rrcE
  /-- `RRC H` (R305). -/
  | rrcH
  /-- `RRC L` (R305). -/
  | rrcL
  /-- `RRC (HL)` (R306). -/
  | rrcIndHl
  /-- `RRC A` (R305). -/
  | rrcA
  /-- `RL B` (R307). -/
  | rlB
  /-- `RL C` (R307). -/
  | rlC
  /-- `RL D` (R307). -/
  | rlD
  /-- `RL E` (R307). -/
  | rlE
  /-- `RL H` (R307). -/
  | rlH
  /-- `RL L` (R307). -/
  | rlL
  /-- `RL (HL)` (R308). -/
  | rlIndHl
  /-- `RL A` (R307). -/
  | rlA
  /-- `RR B` (R309). -/
  | rrB
  /-- `RR C` (R309). -/
  | rrC
  /-- `RR D` (R309). -/
  | rrD
  /-- `RR E` (R309). -/
  | rrE
  /-- `RR H` (R309). -/
  | rrH
  /-- `RR L` (R309). -/
  | rrL
  /-- `RR (HL)` (R310). -/
  | rrIndHl
  /-- `RR A` (R309). -/
  | rrA
  /-- `SLA B` (R311). -/
  | slaB
  /-- `SLA C` (R311). -/
  | slaC
  /-- `SLA D` (R311). -/
  | slaD
  /-- `SLA E` (R311). -/
  | slaE
  /-- `SLA H` (R311). -/
  | slaH
  /-- `SLA L` (R311). -/
  | slaL
  /-- `SLA (HL)` (R312). -/
  | slaIndHl
  /-- `SLA A` (R311). -/
  | slaA
  /-- `SRA B` (R313). -/
  | sraB
  /-- `SRA C` (R313). -/
  | sraC
  /-- `SRA D` (R313). -/
  | sraD
  /-- `SRA E` (R313). -/
  | sraE
  /-- `SRA H` (R313). -/
  | sraH
  /-- `SRA L` (R313). -/
  | sraL
  /-- `SRA (HL)` (R314). -/
  | sraIndHl
  /-- `SRA A` (R313). -/
  | sraA
  /-- `SWAP B` (R315). -/
  | swapB
  /-- `SWAP C` (R315). -/
  | swapC
  /-- `SWAP D` (R315). -/
  | swapD
  /-- `SWAP E` (R315). -/
  | swapE
  /-- `SWAP H` (R315). -/
  | swapH
  /-- `SWAP L` (R315). -/
  | swapL
  /-- `SWAP (HL)` (R316). -/
  | swapIndHl
  /-- `SWAP A` (R315). -/
  | swapA
  /-- `SRL B` (R317). -/
  | srlB
  /-- `SRL C` (R317). -/
  | srlC
  /-- `SRL D` (R317). -/
  | srlD
  /-- `SRL E` (R317). -/
  | srlE
  /-- `SRL H` (R317). -/
  | srlH
  /-- `SRL L` (R317). -/
  | srlL
  /-- `SRL (HL)` (R318). -/
  | srlIndHl
  /-- `SRL A` (R317). -/
  | srlA
  /-- `BIT 0,B` (R319). -/
  | bit0B
  /-- `BIT 0,C` (R319). -/
  | bit0C
  /-- `BIT 0,D` (R319). -/
  | bit0D
  /-- `BIT 0,E` (R319). -/
  | bit0E
  /-- `BIT 0,H` (R319). -/
  | bit0H
  /-- `BIT 0,L` (R319). -/
  | bit0L
  /-- `BIT 0,(HL)` (R320). -/
  | bit0IndHl
  /-- `BIT 0,A` (R319). -/
  | bit0A
  /-- `BIT 1,B` (R319). -/
  | bit1B
  /-- `BIT 1,C` (R319). -/
  | bit1C
  /-- `BIT 1,D` (R319). -/
  | bit1D
  /-- `BIT 1,E` (R319). -/
  | bit1E
  /-- `BIT 1,H` (R319). -/
  | bit1H
  /-- `BIT 1,L` (R319). -/
  | bit1L
  /-- `BIT 1,(HL)` (R320). -/
  | bit1IndHl
  /-- `BIT 1,A` (R319). -/
  | bit1A
  /-- `BIT 2,B` (R319). -/
  | bit2B
  /-- `BIT 2,C` (R319). -/
  | bit2C
  /-- `BIT 2,D` (R319). -/
  | bit2D
  /-- `BIT 2,E` (R319). -/
  | bit2E
  /-- `BIT 2,H` (R319). -/
  | bit2H
  /-- `BIT 2,L` (R319). -/
  | bit2L
  /-- `BIT 2,(HL)` (R320). -/
  | bit2IndHl
  /-- `BIT 2,A` (R319). -/
  | bit2A
  /-- `BIT 3,B` (R319). -/
  | bit3B
  /-- `BIT 3,C` (R319). -/
  | bit3C
  /-- `BIT 3,D` (R319). -/
  | bit3D
  /-- `BIT 3,E` (R319). -/
  | bit3E
  /-- `BIT 3,H` (R319). -/
  | bit3H
  /-- `BIT 3,L` (R319). -/
  | bit3L
  /-- `BIT 3,(HL)` (R320). -/
  | bit3IndHl
  /-- `BIT 3,A` (R319). -/
  | bit3A
  /-- `BIT 4,B` (R319). -/
  | bit4B
  /-- `BIT 4,C` (R319). -/
  | bit4C
  /-- `BIT 4,D` (R319). -/
  | bit4D
  /-- `BIT 4,E` (R319). -/
  | bit4E
  /-- `BIT 4,H` (R319). -/
  | bit4H
  /-- `BIT 4,L` (R319). -/
  | bit4L
  /-- `BIT 4,(HL)` (R320). -/
  | bit4IndHl
  /-- `BIT 4,A` (R319). -/
  | bit4A
  /-- `BIT 5,B` (R319). -/
  | bit5B
  /-- `BIT 5,C` (R319). -/
  | bit5C
  /-- `BIT 5,D` (R319). -/
  | bit5D
  /-- `BIT 5,E` (R319). -/
  | bit5E
  /-- `BIT 5,H` (R319). -/
  | bit5H
  /-- `BIT 5,L` (R319). -/
  | bit5L
  /-- `BIT 5,(HL)` (R320). -/
  | bit5IndHl
  /-- `BIT 5,A` (R319). -/
  | bit5A
  /-- `BIT 6,B` (R319). -/
  | bit6B
  /-- `BIT 6,C` (R319). -/
  | bit6C
  /-- `BIT 6,D` (R319). -/
  | bit6D
  /-- `BIT 6,E` (R319). -/
  | bit6E
  /-- `BIT 6,H` (R319). -/
  | bit6H
  /-- `BIT 6,L` (R319). -/
  | bit6L
  /-- `BIT 6,(HL)` (R320). -/
  | bit6IndHl
  /-- `BIT 6,A` (R319). -/
  | bit6A
  /-- `BIT 7,B` (R319). -/
  | bit7B
  /-- `BIT 7,C` (R319). -/
  | bit7C
  /-- `BIT 7,D` (R319). -/
  | bit7D
  /-- `BIT 7,E` (R319). -/
  | bit7E
  /-- `BIT 7,H` (R319). -/
  | bit7H
  /-- `BIT 7,L` (R319). -/
  | bit7L
  /-- `BIT 7,(HL)` (R320). -/
  | bit7IndHl
  /-- `BIT 7,A` (R319). -/
  | bit7A
  /-- `RES 0,B` (R321). -/
  | res0B
  /-- `RES 0,C` (R321). -/
  | res0C
  /-- `RES 0,D` (R321). -/
  | res0D
  /-- `RES 0,E` (R321). -/
  | res0E
  /-- `RES 0,H` (R321). -/
  | res0H
  /-- `RES 0,L` (R321). -/
  | res0L
  /-- `RES 0,(HL)` (R322). -/
  | res0IndHl
  /-- `RES 0,A` (R321). -/
  | res0A
  /-- `RES 1,B` (R321). -/
  | res1B
  /-- `RES 1,C` (R321). -/
  | res1C
  /-- `RES 1,D` (R321). -/
  | res1D
  /-- `RES 1,E` (R321). -/
  | res1E
  /-- `RES 1,H` (R321). -/
  | res1H
  /-- `RES 1,L` (R321). -/
  | res1L
  /-- `RES 1,(HL)` (R322). -/
  | res1IndHl
  /-- `RES 1,A` (R321). -/
  | res1A
  /-- `RES 2,B` (R321). -/
  | res2B
  /-- `RES 2,C` (R321). -/
  | res2C
  /-- `RES 2,D` (R321). -/
  | res2D
  /-- `RES 2,E` (R321). -/
  | res2E
  /-- `RES 2,H` (R321). -/
  | res2H
  /-- `RES 2,L` (R321). -/
  | res2L
  /-- `RES 2,(HL)` (R322). -/
  | res2IndHl
  /-- `RES 2,A` (R321). -/
  | res2A
  /-- `RES 3,B` (R321). -/
  | res3B
  /-- `RES 3,C` (R321). -/
  | res3C
  /-- `RES 3,D` (R321). -/
  | res3D
  /-- `RES 3,E` (R321). -/
  | res3E
  /-- `RES 3,H` (R321). -/
  | res3H
  /-- `RES 3,L` (R321). -/
  | res3L
  /-- `RES 3,(HL)` (R322). -/
  | res3IndHl
  /-- `RES 3,A` (R321). -/
  | res3A
  /-- `RES 4,B` (R321). -/
  | res4B
  /-- `RES 4,C` (R321). -/
  | res4C
  /-- `RES 4,D` (R321). -/
  | res4D
  /-- `RES 4,E` (R321). -/
  | res4E
  /-- `RES 4,H` (R321). -/
  | res4H
  /-- `RES 4,L` (R321). -/
  | res4L
  /-- `RES 4,(HL)` (R322). -/
  | res4IndHl
  /-- `RES 4,A` (R321). -/
  | res4A
  /-- `RES 5,B` (R321). -/
  | res5B
  /-- `RES 5,C` (R321). -/
  | res5C
  /-- `RES 5,D` (R321). -/
  | res5D
  /-- `RES 5,E` (R321). -/
  | res5E
  /-- `RES 5,H` (R321). -/
  | res5H
  /-- `RES 5,L` (R321). -/
  | res5L
  /-- `RES 5,(HL)` (R322). -/
  | res5IndHl
  /-- `RES 5,A` (R321). -/
  | res5A
  /-- `RES 6,B` (R321). -/
  | res6B
  /-- `RES 6,C` (R321). -/
  | res6C
  /-- `RES 6,D` (R321). -/
  | res6D
  /-- `RES 6,E` (R321). -/
  | res6E
  /-- `RES 6,H` (R321). -/
  | res6H
  /-- `RES 6,L` (R321). -/
  | res6L
  /-- `RES 6,(HL)` (R322). -/
  | res6IndHl
  /-- `RES 6,A` (R321). -/
  | res6A
  /-- `RES 7,B` (R321). -/
  | res7B
  /-- `RES 7,C` (R321). -/
  | res7C
  /-- `RES 7,D` (R321). -/
  | res7D
  /-- `RES 7,E` (R321). -/
  | res7E
  /-- `RES 7,H` (R321). -/
  | res7H
  /-- `RES 7,L` (R321). -/
  | res7L
  /-- `RES 7,(HL)` (R322). -/
  | res7IndHl
  /-- `RES 7,A` (R321). -/
  | res7A
  /-- `SET 0,B` (R323). -/
  | set0B
  /-- `SET 0,C` (R323). -/
  | set0C
  /-- `SET 0,D` (R323). -/
  | set0D
  /-- `SET 0,E` (R323). -/
  | set0E
  /-- `SET 0,H` (R323). -/
  | set0H
  /-- `SET 0,L` (R323). -/
  | set0L
  /-- `SET 0,(HL)` (R324). -/
  | set0IndHl
  /-- `SET 0,A` (R323). -/
  | set0A
  /-- `SET 1,B` (R323). -/
  | set1B
  /-- `SET 1,C` (R323). -/
  | set1C
  /-- `SET 1,D` (R323). -/
  | set1D
  /-- `SET 1,E` (R323). -/
  | set1E
  /-- `SET 1,H` (R323). -/
  | set1H
  /-- `SET 1,L` (R323). -/
  | set1L
  /-- `SET 1,(HL)` (R324). -/
  | set1IndHl
  /-- `SET 1,A` (R323). -/
  | set1A
  /-- `SET 2,B` (R323). -/
  | set2B
  /-- `SET 2,C` (R323). -/
  | set2C
  /-- `SET 2,D` (R323). -/
  | set2D
  /-- `SET 2,E` (R323). -/
  | set2E
  /-- `SET 2,H` (R323). -/
  | set2H
  /-- `SET 2,L` (R323). -/
  | set2L
  /-- `SET 2,(HL)` (R324). -/
  | set2IndHl
  /-- `SET 2,A` (R323). -/
  | set2A
  /-- `SET 3,B` (R323). -/
  | set3B
  /-- `SET 3,C` (R323). -/
  | set3C
  /-- `SET 3,D` (R323). -/
  | set3D
  /-- `SET 3,E` (R323). -/
  | set3E
  /-- `SET 3,H` (R323). -/
  | set3H
  /-- `SET 3,L` (R323). -/
  | set3L
  /-- `SET 3,(HL)` (R324). -/
  | set3IndHl
  /-- `SET 3,A` (R323). -/
  | set3A
  /-- `SET 4,B` (R323). -/
  | set4B
  /-- `SET 4,C` (R323). -/
  | set4C
  /-- `SET 4,D` (R323). -/
  | set4D
  /-- `SET 4,E` (R323). -/
  | set4E
  /-- `SET 4,H` (R323). -/
  | set4H
  /-- `SET 4,L` (R323). -/
  | set4L
  /-- `SET 4,(HL)` (R324). -/
  | set4IndHl
  /-- `SET 4,A` (R323). -/
  | set4A
  /-- `SET 5,B` (R323). -/
  | set5B
  /-- `SET 5,C` (R323). -/
  | set5C
  /-- `SET 5,D` (R323). -/
  | set5D
  /-- `SET 5,E` (R323). -/
  | set5E
  /-- `SET 5,H` (R323). -/
  | set5H
  /-- `SET 5,L` (R323). -/
  | set5L
  /-- `SET 5,(HL)` (R324). -/
  | set5IndHl
  /-- `SET 5,A` (R323). -/
  | set5A
  /-- `SET 6,B` (R323). -/
  | set6B
  /-- `SET 6,C` (R323). -/
  | set6C
  /-- `SET 6,D` (R323). -/
  | set6D
  /-- `SET 6,E` (R323). -/
  | set6E
  /-- `SET 6,H` (R323). -/
  | set6H
  /-- `SET 6,L` (R323). -/
  | set6L
  /-- `SET 6,(HL)` (R324). -/
  | set6IndHl
  /-- `SET 6,A` (R323). -/
  | set6A
  /-- `SET 7,B` (R323). -/
  | set7B
  /-- `SET 7,C` (R323). -/
  | set7C
  /-- `SET 7,D` (R323). -/
  | set7D
  /-- `SET 7,E` (R323). -/
  | set7E
  /-- `SET 7,H` (R323). -/
  | set7H
  /-- `SET 7,L` (R323). -/
  | set7L
  /-- `SET 7,(HL)` (R324). -/
  | set7IndHl
  /-- `SET 7,A` (R323). -/
  | set7A
  deriving DecidableEq, Repr

end Sys2Proof
end

