-- ==== Sys2Proof/WellFormed.lean ====
section
/-! DEFINITION. Which terms of `Instr` stand for an instruction. Operand widths are fixed by the
types of Syntax.lean; the one check left is R154: the prefix byte 0xCB "is not itself an instruction". -/

namespace Sys2Proof

/-- The instruction stands for words of its own (R154, assumption 13). -/
def wellFormed : Instr → Bool
  | .prefixCb _ => false
  | _ => true

end Sys2Proof
end

