-- ==== Sys2Proof/Decode.lean ====
section
/-! DEFINITION. The decoder of 30_encoding.md, total on any bytes, and after it the encoder. The two
tables are written row by row as R142 and R143 print them (high nibble down, low nibble across); the
encoder is written from the byte each row of spec/opcode_table.json gives. -/

namespace Sys2Proof

/-- How one byte of the base map goes on (R132): alone, with an 8-bit operand, with a 16-bit operand
(low byte first, R88), or as the CB prefix (R154). -/
inductive Fmt where
  | op (i : Instr)
  | imm8 (i : Byte → Instr)
  | imm16 (i : Word → Instr)
  | cbPrefix

/-- Why bytes are no instruction. No byte value is rejected (R150, R151): only a list that ends too
soon is. -/
inductive DecodeError where
  /-- there is no first byte -/
  | noBytes
  /-- the first byte needs operand bytes that are not there -/
  | truncated
  deriving DecidableEq, Repr

/-- Row 0x of the base map R142. -/
def baseRow0 : List Fmt :=
  [.op .nop, .imm16 .ldBcNn, .op .ldIndBcA, .op .incBc,
   .op .incB, .op .decB, .imm8 .ldBN, .op .rlca,
   .imm16 .ldIndNnSp, .op .addHlBc, .op .ldAIndBc, .op .decBc,
   .op .incC, .op .decC, .imm8 .ldCN, .op .rrca]

/-- Row 1x of the base map R142. -/
def baseRow1 : List Fmt :=
  [.imm8 .stop, .imm16 .ldDeNn, .op .ldIndDeA, .op .incDe,
   .op .incD, .op .decD, .imm8 .ldDN, .op .rla,
   .imm8 .jrE, .op .addHlDe, .op .ldAIndDe, .op .decDe,
   .op .incE, .op .decE, .imm8 .ldEN, .op .rra]

/-- Row 2x of the base map R142. -/
def baseRow2 : List Fmt :=
  [.imm8 .jrNzE, .imm16 .ldHlNn, .op .ldIndHlIncA, .op .incHl,
   .op .incH, .op .decH, .imm8 .ldHN, .op .daa,
   .imm8 .jrZE, .op .addHlHl, .op .ldAIndHlInc, .op .decHl,
   .op .incL, .op .decL, .imm8 .ldLN, .op .cpl]

/-- Row 3x of the base map R142. -/
def baseRow3 : List Fmt :=
  [.imm8 .jrNcE, .imm16 .ldSpNn, .op .ldIndHlDecA, .op .incSp,
   .op .incIndHl, .op .decIndHl, .imm8 .ldIndHlN, .op .scf,
   .imm8 .jrCE, .op .addHlSp, .op .ldAIndHlDec, .op .decSp,
   .op .incA, .op .decA, .imm8 .ldAN, .op .ccf]

/-- Row 4x of the base map R142. -/
def baseRow4 : List Fmt :=
  [.op .ldBB, .op .ldBC, .op .ldBD, .op .ldBE,
   .op .ldBH, .op .ldBL, .op .ldBIndHl, .op .ldBA,
   .op .ldCB, .op .ldCC, .op .ldCD, .op .ldCE,
   .op .ldCH, .op .ldCL, .op .ldCIndHl, .op .ldCA]

/-- Row 5x of the base map R142. -/
def baseRow5 : List Fmt :=
  [.op .ldDB, .op .ldDC, .op .ldDD, .op .ldDE,
   .op .ldDH, .op .ldDL, .op .ldDIndHl, .op .ldDA,
   .op .ldEB, .op .ldEC, .op .ldED, .op .ldEE,
   .op .ldEH, .op .ldEL, .op .ldEIndHl, .op .ldEA]

/-- Row 6x of the base map R142. -/
def baseRow6 : List Fmt :=
  [.op .ldHB, .op .ldHC, .op .ldHD, .op .ldHE,
   .op .ldHH, .op .ldHL, .op .ldHIndHl, .op .ldHA,
   .op .ldLB, .op .ldLC, .op .ldLD, .op .ldLE,
   .op .ldLH, .op .ldLL, .op .ldLIndHl, .op .ldLA]

/-- Row 7x of the base map R142. -/
def baseRow7 : List Fmt :=
  [.op .ldIndHlB, .op .ldIndHlC, .op .ldIndHlD, .op .ldIndHlE,
   .op .ldIndHlH, .op .ldIndHlL, .op .halt, .op .ldIndHlA,
   .op .ldAB, .op .ldAC, .op .ldAD, .op .ldAE,
   .op .ldAH, .op .ldAL, .op .ldAIndHl, .op .ldAA]

/-- Row 8x of the base map R142. -/
def baseRow8 : List Fmt :=
  [.op .addAB, .op .addAC, .op .addAD, .op .addAE,
   .op .addAH, .op .addAL, .op .addAIndHl, .op .addAA,
   .op .adcAB, .op .adcAC, .op .adcAD, .op .adcAE,
   .op .adcAH, .op .adcAL, .op .adcAIndHl, .op .adcAA]

/-- Row 9x of the base map R142. -/
def baseRow9 : List Fmt :=
  [.op .subAB, .op .subAC, .op .subAD, .op .subAE,
   .op .subAH, .op .subAL, .op .subAIndHl, .op .subAA,
   .op .sbcAB, .op .sbcAC, .op .sbcAD, .op .sbcAE,
   .op .sbcAH, .op .sbcAL, .op .sbcAIndHl, .op .sbcAA]

/-- Row Ax of the base map R142. -/
def baseRowA : List Fmt :=
  [.op .andAB, .op .andAC, .op .andAD, .op .andAE,
   .op .andAH, .op .andAL, .op .andAIndHl, .op .andAA,
   .op .xorAB, .op .xorAC, .op .xorAD, .op .xorAE,
   .op .xorAH, .op .xorAL, .op .xorAIndHl, .op .xorAA]

/-- Row Bx of the base map R142. -/
def baseRowB : List Fmt :=
  [.op .orAB, .op .orAC, .op .orAD, .op .orAE,
   .op .orAH, .op .orAL, .op .orAIndHl, .op .orAA,
   .op .cpAB, .op .cpAC, .op .cpAD, .op .cpAE,
   .op .cpAH, .op .cpAL, .op .cpAIndHl, .op .cpAA]

/-- Row Cx of the base map R142. -/
def baseRowC : List Fmt :=
  [.op .retNz, .op .popBc, .imm16 .jpNzNn, .imm16 .jpNn,
   .imm16 .callNzNn, .op .pushBc, .imm8 .addAN, .op .rst00,
   .op .retZ, .op .ret, .imm16 .jpZNn, .cbPrefix,
   .imm16 .callZNn, .imm16 .callNn, .imm8 .adcAN, .op .rst08]

/-- Row Dx of the base map R142. -/
def baseRowD : List Fmt :=
  [.op .retNc, .op .popDe, .imm16 .jpNcNn, .op .illegalD3,
   .imm16 .callNcNn, .op .pushDe, .imm8 .subAN, .op .rst10,
   .op .retC, .op .reti, .imm16 .jpCNn, .op .illegalDB,
   .imm16 .callCNn, .op .illegalDD, .imm8 .sbcAN, .op .rst18]

/-- Row Ex of the base map R142. -/
def baseRowE : List Fmt :=
  [.imm8 .ldhIndNA, .op .popHl, .op .ldIndCA, .op .illegalE3,
   .op .illegalE4, .op .pushHl, .imm8 .andAN, .op .rst20,
   .imm8 .addSpE, .op .jpHl, .imm16 .ldIndNnA, .op .illegalEB,
   .op .illegalEC, .op .illegalED, .imm8 .xorAN, .op .rst28]

/-- Row Fx of the base map R142. -/
def baseRowF : List Fmt :=
  [.imm8 .ldhAIndN, .op .popAf, .op .ldAIndC, .op .di,
   .op .illegalF4, .op .pushAf, .imm8 .orAN, .op .rst30,
   .imm8 .ldHlSpE, .op .ldSpHl, .imm16 .ldAIndNn, .op .ei,
   .op .illegalFC, .op .illegalFD, .imm8 .cpAN, .op .rst38]

/-- The base map R142: sixteen rows of sixteen, high nibble down, low nibble across. -/
def baseMap : List (List Fmt) :=
  [baseRow0, baseRow1, baseRow2, baseRow3, baseRow4, baseRow5, baseRow6, baseRow7,
   baseRow8, baseRow9, baseRowA, baseRowB, baseRowC, baseRowD, baseRowE, baseRowF]

/-- Row 0x of the CB map R143. -/
def cbRow0 : List Instr :=
  [.rlcB, .rlcC, .rlcD, .rlcE,
   .rlcH, .rlcL, .rlcIndHl, .rlcA,
   .rrcB, .rrcC, .rrcD, .rrcE,
   .rrcH, .rrcL, .rrcIndHl, .rrcA]

/-- Row 1x of the CB map R143. -/
def cbRow1 : List Instr :=
  [.rlB, .rlC, .rlD, .rlE,
   .rlH, .rlL, .rlIndHl, .rlA,
   .rrB, .rrC, .rrD, .rrE,
   .rrH, .rrL, .rrIndHl, .rrA]

/-- Row 2x of the CB map R143. -/
def cbRow2 : List Instr :=
  [.slaB, .slaC, .slaD, .slaE,
   .slaH, .slaL, .slaIndHl, .slaA,
   .sraB, .sraC, .sraD, .sraE,
   .sraH, .sraL, .sraIndHl, .sraA]

/-- Row 3x of the CB map R143. -/
def cbRow3 : List Instr :=
  [.swapB, .swapC, .swapD, .swapE,
   .swapH, .swapL, .swapIndHl, .swapA,
   .srlB, .srlC, .srlD, .srlE,
   .srlH, .srlL, .srlIndHl, .srlA]

/-- Row 4x of the CB map R143. -/
def cbRow4 : List Instr :=
  [.bit0B, .bit0C, .bit0D, .bit0E,
   .bit0H, .bit0L, .bit0IndHl, .bit0A,
   .bit1B, .bit1C, .bit1D, .bit1E,
   .bit1H, .bit1L, .bit1IndHl, .bit1A]

/-- Row 5x of the CB map R143. -/
def cbRow5 : List Instr :=
  [.bit2B, .bit2C, .bit2D, .bit2E,
   .bit2H, .bit2L, .bit2IndHl, .bit2A,
   .bit3B, .bit3C, .bit3D, .bit3E,
   .bit3H, .bit3L, .bit3IndHl, .bit3A]

/-- Row 6x of the CB map R143. -/
def cbRow6 : List Instr :=
  [.bit4B, .bit4C, .bit4D, .bit4E,
   .bit4H, .bit4L, .bit4IndHl, .bit4A,
   .bit5B, .bit5C, .bit5D, .bit5E,
   .bit5H, .bit5L, .bit5IndHl, .bit5A]

/-- Row 7x of the CB map R143. -/
def cbRow7 : List Instr :=
  [.bit6B, .bit6C, .bit6D, .bit6E,
   .bit6H, .bit6L, .bit6IndHl, .bit6A,
   .bit7B, .bit7C, .bit7D, .bit7E,
   .bit7H, .bit7L, .bit7IndHl, .bit7A]

/-- Row 8x of the CB map R143. -/
def cbRow8 : List Instr :=
  [.res0B, .res0C, .res0D, .res0E,
   .res0H, .res0L, .res0IndHl, .res0A,
   .res1B, .res1C, .res1D, .res1E,
   .res1H, .res1L, .res1IndHl, .res1A]

/-- Row 9x of the CB map R143. -/
def cbRow9 : List Instr :=
  [.res2B, .res2C, .res2D, .res2E,
   .res2H, .res2L, .res2IndHl, .res2A,
   .res3B, .res3C, .res3D, .res3E,
   .res3H, .res3L, .res3IndHl, .res3A]

/-- Row Ax of the CB map R143. -/
def cbRowA : List Instr :=
  [.res4B, .res4C, .res4D, .res4E,
   .res4H, .res4L, .res4IndHl, .res4A,
   .res5B, .res5C, .res5D, .res5E,
   .res5H, .res5L, .res5IndHl, .res5A]

/-- Row Bx of the CB map R143. -/
def cbRowB : List Instr :=
  [.res6B, .res6C, .res6D, .res6E,
   .res6H, .res6L, .res6IndHl, .res6A,
   .res7B, .res7C, .res7D, .res7E,
   .res7H, .res7L, .res7IndHl, .res7A]

/-- Row Cx of the CB map R143. -/
def cbRowC : List Instr :=
  [.set0B, .set0C, .set0D, .set0E,
   .set0H, .set0L, .set0IndHl, .set0A,
   .set1B, .set1C, .set1D, .set1E,
   .set1H, .set1L, .set1IndHl, .set1A]

/-- Row Dx of the CB map R143. -/
def cbRowD : List Instr :=
  [.set2B, .set2C, .set2D, .set2E,
   .set2H, .set2L, .set2IndHl, .set2A,
   .set3B, .set3C, .set3D, .set3E,
   .set3H, .set3L, .set3IndHl, .set3A]

/-- Row Ex of the CB map R143. -/
def cbRowE : List Instr :=
  [.set4B, .set4C, .set4D, .set4E,
   .set4H, .set4L, .set4IndHl, .set4A,
   .set5B, .set5C, .set5D, .set5E,
   .set5H, .set5L, .set5IndHl, .set5A]

/-- Row Fx of the CB map R143. -/
def cbRowF : List Instr :=
  [.set6B, .set6C, .set6D, .set6E,
   .set6H, .set6L, .set6IndHl, .set6A,
   .set7B, .set7C, .set7D, .set7E,
   .set7H, .set7L, .set7IndHl, .set7A]

/-- The CB map R143: sixteen rows of sixteen. -/
def cbMap : List (List Instr) :=
  [cbRow0, cbRow1, cbRow2, cbRow3, cbRow4, cbRow5, cbRow6, cbRow7,
   cbRow8, cbRow9, cbRowA, cbRowB, cbRowC, cbRowD, cbRowE, cbRowF]

/-- The cell of a table of sixteen rows of sixteen that a byte selects. -/
def cell {α : Type} (rows : List (List α)) (h : rows.length = 16 ∧ ∀ r ∈ rows, r.length = 16)
    (op : Byte) : α :=
  (rows[op.toNat / 16]'(by have := op.isLt; omega))[op.toNat % 16]'(by
    rw [h.2 _ (List.getElem_mem _)]
    omega)

theorem baseMap_shape : baseMap.length = 16 ∧ ∀ r ∈ baseMap, r.length = 16 := by decide

theorem cbMap_shape : cbMap.length = 16 ∧ ∀ r ∈ cbMap, r.length = 16 := by decide

/-- The base table: "dispatch through a 256-entry table" (R372). -/
def decodeOp (op : Byte) : Fmt := cell baseMap baseMap_shape op

/-- The CB table: "dispatch through a second 256-entry table" (R373). -/
def decodeCb (op2 : Byte) : Instr := cell cbMap cbMap_shape op2

/-- The instruction at the head of a list of bytes, and the bytes after it (R131, R154). -/
def decode : List Byte → Except DecodeError (Instr × List Byte)
  | [] => .error .noBytes
  | op :: rest =>
    match decodeOp op, rest with
    | .op i, rest => .ok (i, rest)
    | .imm8 f, n :: rest => .ok (f n, rest)
    | .imm16 f, l :: h :: rest => .ok (f (word h l), rest)
    | .cbPrefix, op2 :: rest => .ok (decodeCb op2, rest)
    | _, _ => .error .truncated

/-- The length of the instruction that begins with `op` (R154): 2 after the prefix 0xCB, 3 for the
`op_imm16` bytes, 2 for the `op_imm8` and `op_rel8` bytes and for 0x10, 1 for all others. -/
def instrLength (op : Byte) : Nat :=
  match decodeOp op with
  | .op _ => 1
  | .imm8 _ => 2
  | .imm16 _ => 3
  | .cbPrefix => 2

/-- The bytes of an instruction whose bits spec/opcode_table.json numbers `w`, in fetch order, with
zeros above `nbits`. The table numbers a CB row with the prefix in bits 15..8 and a base row with its
byte in bits 7..0 (assumption 12). -/
def tableBytes (nbits w : Nat) : List Byte :=
  let v := w % 2 ^ nbits
  if nbits = 16 ∧ v / 256 = 0xCB then
    [0xCB, BitVec.ofNat 8 v, 0]
  else
    [BitVec.ofNat 8 v, BitVec.ofNat 8 (v / 256), BitVec.ofNat 8 (v / 65536)]

/-- The instruction this decoder reads from a word of spec/opcode_table.json. -/
def decodeTableWord (nbits w : Nat) : Option Instr :=
  match decode (tableBytes nbits w) with
  | .ok (i, _) => some i
  | .error _ => none

/-- The bytes of an instruction, in fetch order. -/
def encode : Instr → List Byte
  | .nop => [0x00]
  | .ldBcNn nn => [0x01, lo nn, hi nn]
  | .ldIndBcA => [0x02]
  | .incBc => [0x03]
  | .incB => [0x04]
  | .decB => [0x05]
  | .ldBN n => [0x06, n]
  | .rlca => [0x07]
  | .ldIndNnSp nn => [0x08, lo nn, hi nn]
  | .addHlBc => [0x09]
  | .ldAIndBc => [0x0A]
  | .decBc => [0x0B]
  | .incC => [0x0C]
  | .decC => [0x0D]
  | .ldCN n => [0x0E, n]
  | .rrca => [0x0F]
  | .stop skipped => [0x10, skipped]
  | .ldDeNn nn => [0x11, lo nn, hi nn]
  | .ldIndDeA => [0x12]
  | .incDe => [0x13]
  | .incD => [0x14]
  | .decD => [0x15]
  | .ldDN n => [0x16, n]
  | .rla => [0x17]
  | .jrE e => [0x18, e]
  | .addHlDe => [0x19]
  | .ldAIndDe => [0x1A]
  | .decDe => [0x1B]
  | .incE => [0x1C]
  | .decE => [0x1D]
  | .ldEN n => [0x1E, n]
  | .rra => [0x1F]
  | .jrNzE e => [0x20, e]
  | .ldHlNn nn => [0x21, lo nn, hi nn]
  | .ldIndHlIncA => [0x22]
  | .incHl => [0x23]
  | .incH => [0x24]
  | .decH => [0x25]
  | .ldHN n => [0x26, n]
  | .daa => [0x27]
  | .jrZE e => [0x28, e]
  | .addHlHl => [0x29]
  | .ldAIndHlInc => [0x2A]
  | .decHl => [0x2B]
  | .incL => [0x2C]
  | .decL => [0x2D]
  | .ldLN n => [0x2E, n]
  | .cpl => [0x2F]
  | .jrNcE e => [0x30, e]
  | .ldSpNn nn => [0x31, lo nn, hi nn]
  | .ldIndHlDecA => [0x32]
  | .incSp => [0x33]
  | .incIndHl => [0x34]
  | .decIndHl => [0x35]
  | .ldIndHlN n => [0x36, n]
  | .scf => [0x37]
  | .jrCE e => [0x38, e]
  | .addHlSp => [0x39]
  | .ldAIndHlDec => [0x3A]
  | .decSp => [0x3B]
  | .incA => [0x3C]
  | .decA => [0x3D]
  | .ldAN n => [0x3E, n]
  | .ccf => [0x3F]
  | .ldBB => [0x40]
  | .ldBC => [0x41]
  | .ldBD => [0x42]
  | .ldBE => [0x43]
  | .ldBH => [0x44]
  | .ldBL => [0x45]
  | .ldBIndHl => [0x46]
  | .ldBA => [0x47]
  | .ldCB => [0x48]
  | .ldCC => [0x49]
  | .ldCD => [0x4A]
  | .ldCE => [0x4B]
  | .ldCH => [0x4C]
  | .ldCL => [0x4D]
  | .ldCIndHl => [0x4E]
  | .ldCA => [0x4F]
  | .ldDB => [0x50]
  | .ldDC => [0x51]
  | .ldDD => [0x52]
  | .ldDE => [0x53]
  | .ldDH => [0x54]
  | .ldDL => [0x55]
  | .ldDIndHl => [0x56]
  | .ldDA => [0x57]
  | .ldEB => [0x58]
  | .ldEC => [0x59]
  | .ldED => [0x5A]
  | .ldEE => [0x5B]
  | .ldEH => [0x5C]
  | .ldEL => [0x5D]
  | .ldEIndHl => [0x5E]
  | .ldEA => [0x5F]
  | .ldHB => [0x60]
  | .ldHC => [0x61]
  | .ldHD => [0x62]
  | .ldHE => [0x63]
  | .ldHH => [0x64]
  | .ldHL => [0x65]
  | .ldHIndHl => [0x66]
  | .ldHA => [0x67]
  | .ldLB => [0x68]
  | .ldLC => [0x69]
  | .ldLD => [0x6A]
  | .ldLE => [0x6B]
  | .ldLH => [0x6C]
  | .ldLL => [0x6D]
  | .ldLIndHl => [0x6E]
  | .ldLA => [0x6F]
  | .ldIndHlB => [0x70]
  | .ldIndHlC => [0x71]
  | .ldIndHlD => [0x72]
  | .ldIndHlE => [0x73]
  | .ldIndHlH => [0x74]
  | .ldIndHlL => [0x75]
  | .halt => [0x76]
  | .ldIndHlA => [0x77]
  | .ldAB => [0x78]
  | .ldAC => [0x79]
  | .ldAD => [0x7A]
  | .ldAE => [0x7B]
  | .ldAH => [0x7C]
  | .ldAL => [0x7D]
  | .ldAIndHl => [0x7E]
  | .ldAA => [0x7F]
  | .addAB => [0x80]
  | .addAC => [0x81]
  | .addAD => [0x82]
  | .addAE => [0x83]
  | .addAH => [0x84]
  | .addAL => [0x85]
  | .addAIndHl => [0x86]
  | .addAA => [0x87]
  | .adcAB => [0x88]
  | .adcAC => [0x89]
  | .adcAD => [0x8A]
  | .adcAE => [0x8B]
  | .adcAH => [0x8C]
  | .adcAL => [0x8D]
  | .adcAIndHl => [0x8E]
  | .adcAA => [0x8F]
  | .subAB => [0x90]
  | .subAC => [0x91]
  | .subAD => [0x92]
  | .subAE => [0x93]
  | .subAH => [0x94]
  | .subAL => [0x95]
  | .subAIndHl => [0x96]
  | .subAA => [0x97]
  | .sbcAB => [0x98]
  | .sbcAC => [0x99]
  | .sbcAD => [0x9A]
  | .sbcAE => [0x9B]
  | .sbcAH => [0x9C]
  | .sbcAL => [0x9D]
  | .sbcAIndHl => [0x9E]
  | .sbcAA => [0x9F]
  | .andAB => [0xA0]
  | .andAC => [0xA1]
  | .andAD => [0xA2]
  | .andAE => [0xA3]
  | .andAH => [0xA4]
  | .andAL => [0xA5]
  | .andAIndHl => [0xA6]
  | .andAA => [0xA7]
  | .xorAB => [0xA8]
  | .xorAC => [0xA9]
  | .xorAD => [0xAA]
  | .xorAE => [0xAB]
  | .xorAH => [0xAC]
  | .xorAL => [0xAD]
  | .xorAIndHl => [0xAE]
  | .xorAA => [0xAF]
  | .orAB => [0xB0]
  | .orAC => [0xB1]
  | .orAD => [0xB2]
  | .orAE => [0xB3]
  | .orAH => [0xB4]
  | .orAL => [0xB5]
  | .orAIndHl => [0xB6]
  | .orAA => [0xB7]
  | .cpAB => [0xB8]
  | .cpAC => [0xB9]
  | .cpAD => [0xBA]
  | .cpAE => [0xBB]
  | .cpAH => [0xBC]
  | .cpAL => [0xBD]
  | .cpAIndHl => [0xBE]
  | .cpAA => [0xBF]
  | .retNz => [0xC0]
  | .popBc => [0xC1]
  | .jpNzNn nn => [0xC2, lo nn, hi nn]
  | .jpNn nn => [0xC3, lo nn, hi nn]
  | .callNzNn nn => [0xC4, lo nn, hi nn]
  | .pushBc => [0xC5]
  | .addAN n => [0xC6, n]
  | .rst00 => [0xC7]
  | .retZ => [0xC8]
  | .ret => [0xC9]
  | .jpZNn nn => [0xCA, lo nn, hi nn]
  | .prefixCb op2 => [0xCB, op2]
  | .callZNn nn => [0xCC, lo nn, hi nn]
  | .callNn nn => [0xCD, lo nn, hi nn]
  | .adcAN n => [0xCE, n]
  | .rst08 => [0xCF]
  | .retNc => [0xD0]
  | .popDe => [0xD1]
  | .jpNcNn nn => [0xD2, lo nn, hi nn]
  | .illegalD3 => [0xD3]
  | .callNcNn nn => [0xD4, lo nn, hi nn]
  | .pushDe => [0xD5]
  | .subAN n => [0xD6, n]
  | .rst10 => [0xD7]
  | .retC => [0xD8]
  | .reti => [0xD9]
  | .jpCNn nn => [0xDA, lo nn, hi nn]
  | .illegalDB => [0xDB]
  | .callCNn nn => [0xDC, lo nn, hi nn]
  | .illegalDD => [0xDD]
  | .sbcAN n => [0xDE, n]
  | .rst18 => [0xDF]
  | .ldhIndNA n => [0xE0, n]
  | .popHl => [0xE1]
  | .ldIndCA => [0xE2]
  | .illegalE3 => [0xE3]
  | .illegalE4 => [0xE4]
  | .pushHl => [0xE5]
  | .andAN n => [0xE6, n]
  | .rst20 => [0xE7]
  | .addSpE e => [0xE8, e]
  | .jpHl => [0xE9]
  | .ldIndNnA nn => [0xEA, lo nn, hi nn]
  | .illegalEB => [0xEB]
  | .illegalEC => [0xEC]
  | .illegalED => [0xED]
  | .xorAN n => [0xEE, n]
  | .rst28 => [0xEF]
  | .ldhAIndN n => [0xF0, n]
  | .popAf => [0xF1]
  | .ldAIndC => [0xF2]
  | .di => [0xF3]
  | .illegalF4 => [0xF4]
  | .pushAf => [0xF5]
  | .orAN n => [0xF6, n]
  | .rst30 => [0xF7]
  | .ldHlSpE e => [0xF8, e]
  | .ldSpHl => [0xF9]
  | .ldAIndNn nn => [0xFA, lo nn, hi nn]
  | .ei => [0xFB]
  | .illegalFC => [0xFC]
  | .illegalFD => [0xFD]
  | .cpAN n => [0xFE, n]
  | .rst38 => [0xFF]
  | .rlcB => [0xCB, 0x00]
  | .rlcC => [0xCB, 0x01]
  | .rlcD => [0xCB, 0x02]
  | .rlcE => [0xCB, 0x03]
  | .rlcH => [0xCB, 0x04]
  | .rlcL => [0xCB, 0x05]
  | .rlcIndHl => [0xCB, 0x06]
  | .rlcA => [0xCB, 0x07]
  | .rrcB => [0xCB, 0x08]
  | .rrcC => [0xCB, 0x09]
  | .rrcD => [0xCB, 0x0A]
  | .rrcE => [0xCB, 0x0B]
  | .rrcH => [0xCB, 0x0C]
  | .rrcL => [0xCB, 0x0D]
  | .rrcIndHl => [0xCB, 0x0E]
  | .rrcA => [0xCB, 0x0F]
  | .rlB => [0xCB, 0x10]
  | .rlC => [0xCB, 0x11]
  | .rlD => [0xCB, 0x12]
  | .rlE => [0xCB, 0x13]
  | .rlH => [0xCB, 0x14]
  | .rlL => [0xCB, 0x15]
  | .rlIndHl => [0xCB, 0x16]
  | .rlA => [0xCB, 0x17]
  | .rrB => [0xCB, 0x18]
  | .rrC => [0xCB, 0x19]
  | .rrD => [0xCB, 0x1A]
  | .rrE => [0xCB, 0x1B]
  | .rrH => [0xCB, 0x1C]
  | .rrL => [0xCB, 0x1D]
  | .rrIndHl => [0xCB, 0x1E]
  | .rrA => [0xCB, 0x1F]
  | .slaB => [0xCB, 0x20]
  | .slaC => [0xCB, 0x21]
  | .slaD => [0xCB, 0x22]
  | .slaE => [0xCB, 0x23]
  | .slaH => [0xCB, 0x24]
  | .slaL => [0xCB, 0x25]
  | .slaIndHl => [0xCB, 0x26]
  | .slaA => [0xCB, 0x27]
  | .sraB => [0xCB, 0x28]
  | .sraC => [0xCB, 0x29]
  | .sraD => [0xCB, 0x2A]
  | .sraE => [0xCB, 0x2B]
  | .sraH => [0xCB, 0x2C]
  | .sraL => [0xCB, 0x2D]
  | .sraIndHl => [0xCB, 0x2E]
  | .sraA => [0xCB, 0x2F]
  | .swapB => [0xCB, 0x30]
  | .swapC => [0xCB, 0x31]
  | .swapD => [0xCB, 0x32]
  | .swapE => [0xCB, 0x33]
  | .swapH => [0xCB, 0x34]
  | .swapL => [0xCB, 0x35]
  | .swapIndHl => [0xCB, 0x36]
  | .swapA => [0xCB, 0x37]
  | .srlB => [0xCB, 0x38]
  | .srlC => [0xCB, 0x39]
  | .srlD => [0xCB, 0x3A]
  | .srlE => [0xCB, 0x3B]
  | .srlH => [0xCB, 0x3C]
  | .srlL => [0xCB, 0x3D]
  | .srlIndHl => [0xCB, 0x3E]
  | .srlA => [0xCB, 0x3F]
  | .bit0B => [0xCB, 0x40]
  | .bit0C => [0xCB, 0x41]
  | .bit0D => [0xCB, 0x42]
  | .bit0E => [0xCB, 0x43]
  | .bit0H => [0xCB, 0x44]
  | .bit0L => [0xCB, 0x45]
  | .bit0IndHl => [0xCB, 0x46]
  | .bit0A => [0xCB, 0x47]
  | .bit1B => [0xCB, 0x48]
  | .bit1C => [0xCB, 0x49]
  | .bit1D => [0xCB, 0x4A]
  | .bit1E => [0xCB, 0x4B]
  | .bit1H => [0xCB, 0x4C]
  | .bit1L => [0xCB, 0x4D]
  | .bit1IndHl => [0xCB, 0x4E]
  | .bit1A => [0xCB, 0x4F]
  | .bit2B => [0xCB, 0x50]
  | .bit2C => [0xCB, 0x51]
  | .bit2D => [0xCB, 0x52]
  | .bit2E => [0xCB, 0x53]
  | .bit2H => [0xCB, 0x54]
  | .bit2L => [0xCB, 0x55]
  | .bit2IndHl => [0xCB, 0x56]
  | .bit2A => [0xCB, 0x57]
  | .bit3B => [0xCB, 0x58]
  | .bit3C => [0xCB, 0x59]
  | .bit3D => [0xCB, 0x5A]
  | .bit3E => [0xCB, 0x5B]
  | .bit3H => [0xCB, 0x5C]
  | .bit3L => [0xCB, 0x5D]
  | .bit3IndHl => [0xCB, 0x5E]
  | .bit3A => [0xCB, 0x5F]
  | .bit4B => [0xCB, 0x60]
  | .bit4C => [0xCB, 0x61]
  | .bit4D => [0xCB, 0x62]
  | .bit4E => [0xCB, 0x63]
  | .bit4H => [0xCB, 0x64]
  | .bit4L => [0xCB, 0x65]
  | .bit4IndHl => [0xCB, 0x66]
  | .bit4A => [0xCB, 0x67]
  | .bit5B => [0xCB, 0x68]
  | .bit5C => [0xCB, 0x69]
  | .bit5D => [0xCB, 0x6A]
  | .bit5E => [0xCB, 0x6B]
  | .bit5H => [0xCB, 0x6C]
  | .bit5L => [0xCB, 0x6D]
  | .bit5IndHl => [0xCB, 0x6E]
  | .bit5A => [0xCB, 0x6F]
  | .bit6B => [0xCB, 0x70]
  | .bit6C => [0xCB, 0x71]
  | .bit6D => [0xCB, 0x72]
  | .bit6E => [0xCB, 0x73]
  | .bit6H => [0xCB, 0x74]
  | .bit6L => [0xCB, 0x75]
  | .bit6IndHl => [0xCB, 0x76]
  | .bit6A => [0xCB, 0x77]
  | .bit7B => [0xCB, 0x78]
  | .bit7C => [0xCB, 0x79]
  | .bit7D => [0xCB, 0x7A]
  | .bit7E => [0xCB, 0x7B]
  | .bit7H => [0xCB, 0x7C]
  | .bit7L => [0xCB, 0x7D]
  | .bit7IndHl => [0xCB, 0x7E]
  | .bit7A => [0xCB, 0x7F]
  | .res0B => [0xCB, 0x80]
  | .res0C => [0xCB, 0x81]
  | .res0D => [0xCB, 0x82]
  | .res0E => [0xCB, 0x83]
  | .res0H => [0xCB, 0x84]
  | .res0L => [0xCB, 0x85]
  | .res0IndHl => [0xCB, 0x86]
  | .res0A => [0xCB, 0x87]
  | .res1B => [0xCB, 0x88]
  | .res1C => [0xCB, 0x89]
  | .res1D => [0xCB, 0x8A]
  | .res1E => [0xCB, 0x8B]
  | .res1H => [0xCB, 0x8C]
  | .res1L => [0xCB, 0x8D]
  | .res1IndHl => [0xCB, 0x8E]
  | .res1A => [0xCB, 0x8F]
  | .res2B => [0xCB, 0x90]
  | .res2C => [0xCB, 0x91]
  | .res2D => [0xCB, 0x92]
  | .res2E => [0xCB, 0x93]
  | .res2H => [0xCB, 0x94]
  | .res2L => [0xCB, 0x95]
  | .res2IndHl => [0xCB, 0x96]
  | .res2A => [0xCB, 0x97]
  | .res3B => [0xCB, 0x98]
  | .res3C => [0xCB, 0x99]
  | .res3D => [0xCB, 0x9A]
  | .res3E => [0xCB, 0x9B]
  | .res3H => [0xCB, 0x9C]
  | .res3L => [0xCB, 0x9D]
  | .res3IndHl => [0xCB, 0x9E]
  | .res3A => [0xCB, 0x9F]
  | .res4B => [0xCB, 0xA0]
  | .res4C => [0xCB, 0xA1]
  | .res4D => [0xCB, 0xA2]
  | .res4E => [0xCB, 0xA3]
  | .res4H => [0xCB, 0xA4]
  | .res4L => [0xCB, 0xA5]
  | .res4IndHl => [0xCB, 0xA6]
  | .res4A => [0xCB, 0xA7]
  | .res5B => [0xCB, 0xA8]
  | .res5C => [0xCB, 0xA9]
  | .res5D => [0xCB, 0xAA]
  | .res5E => [0xCB, 0xAB]
  | .res5H => [0xCB, 0xAC]
  | .res5L => [0xCB, 0xAD]
  | .res5IndHl => [0xCB, 0xAE]
  | .res5A => [0xCB, 0xAF]
  | .res6B => [0xCB, 0xB0]
  | .res6C => [0xCB, 0xB1]
  | .res6D => [0xCB, 0xB2]
  | .res6E => [0xCB, 0xB3]
  | .res6H => [0xCB, 0xB4]
  | .res6L => [0xCB, 0xB5]
  | .res6IndHl => [0xCB, 0xB6]
  | .res6A => [0xCB, 0xB7]
  | .res7B => [0xCB, 0xB8]
  | .res7C => [0xCB, 0xB9]
  | .res7D => [0xCB, 0xBA]
  | .res7E => [0xCB, 0xBB]
  | .res7H => [0xCB, 0xBC]
  | .res7L => [0xCB, 0xBD]
  | .res7IndHl => [0xCB, 0xBE]
  | .res7A => [0xCB, 0xBF]
  | .set0B => [0xCB, 0xC0]
  | .set0C => [0xCB, 0xC1]
  | .set0D => [0xCB, 0xC2]
  | .set0E => [0xCB, 0xC3]
  | .set0H => [0xCB, 0xC4]
  | .set0L => [0xCB, 0xC5]
  | .set0IndHl => [0xCB, 0xC6]
  | .set0A => [0xCB, 0xC7]
  | .set1B => [0xCB, 0xC8]
  | .set1C => [0xCB, 0xC9]
  | .set1D => [0xCB, 0xCA]
  | .set1E => [0xCB, 0xCB]
  | .set1H => [0xCB, 0xCC]
  | .set1L => [0xCB, 0xCD]
  | .set1IndHl => [0xCB, 0xCE]
  | .set1A => [0xCB, 0xCF]
  | .set2B => [0xCB, 0xD0]
  | .set2C => [0xCB, 0xD1]
  | .set2D => [0xCB, 0xD2]
  | .set2E => [0xCB, 0xD3]
  | .set2H => [0xCB, 0xD4]
  | .set2L => [0xCB, 0xD5]
  | .set2IndHl => [0xCB, 0xD6]
  | .set2A => [0xCB, 0xD7]
  | .set3B => [0xCB, 0xD8]
  | .set3C => [0xCB, 0xD9]
  | .set3D => [0xCB, 0xDA]
  | .set3E => [0xCB, 0xDB]
  | .set3H => [0xCB, 0xDC]
  | .set3L => [0xCB, 0xDD]
  | .set3IndHl => [0xCB, 0xDE]
  | .set3A => [0xCB, 0xDF]
  | .set4B => [0xCB, 0xE0]
  | .set4C => [0xCB, 0xE1]
  | .set4D => [0xCB, 0xE2]
  | .set4E => [0xCB, 0xE3]
  | .set4H => [0xCB, 0xE4]
  | .set4L => [0xCB, 0xE5]
  | .set4IndHl => [0xCB, 0xE6]
  | .set4A => [0xCB, 0xE7]
  | .set5B => [0xCB, 0xE8]
  | .set5C => [0xCB, 0xE9]
  | .set5D => [0xCB, 0xEA]
  | .set5E => [0xCB, 0xEB]
  | .set5H => [0xCB, 0xEC]
  | .set5L => [0xCB, 0xED]
  | .set5IndHl => [0xCB, 0xEE]
  | .set5A => [0xCB, 0xEF]
  | .set6B => [0xCB, 0xF0]
  | .set6C => [0xCB, 0xF1]
  | .set6D => [0xCB, 0xF2]
  | .set6E => [0xCB, 0xF3]
  | .set6H => [0xCB, 0xF4]
  | .set6L => [0xCB, 0xF5]
  | .set6IndHl => [0xCB, 0xF6]
  | .set6A => [0xCB, 0xF7]
  | .set7B => [0xCB, 0xF8]
  | .set7C => [0xCB, 0xF9]
  | .set7D => [0xCB, 0xFA]
  | .set7E => [0xCB, 0xFB]
  | .set7H => [0xCB, 0xFC]
  | .set7L => [0xCB, 0xFD]
  | .set7IndHl => [0xCB, 0xFE]
  | .set7A => [0xCB, 0xFF]

end Sys2Proof
end

