-- ==== Sys2Proof/Config.lean ====
section
/-! DEFINITION. The named parameters of 00_scope.md R11 as plain data (`Params`, a field of `State`:
a claim over every state is a claim over every choice of them), and the free values of the
devices the spec leaves open (R90, R97). Assumptions 1, 2, 3, 4. -/

namespace Sys2Proof

/-- `MODEL` (R3, R11, D1): the monochrome console or the colour one. -/
inductive Model where
  | dmg
  | cgb
  deriving DecidableEq, Repr

/-- The values of `ILLEGAL_MODE` and of `STOP_MODE` (R11, R377, R378). -/
inductive OpMode where
  | nop
  | refuse
  deriving DecidableEq, Repr

/-- `OAM_DMA` (R11, R440, D22). -/
inductive OamDma where
  | copy
  | stub
  deriving DecidableEq, Repr

/-- `HDMA_ENGINE` (R11, R448, D23). -/
inductive HdmaEngine where
  | copy
  | registersOnly
  deriving DecidableEq, Repr

/-- One pixel of the screen: its red, green and blue bytes (R61). -/
structure Rgb where
  r : Byte
  g : Byte
  b : Byte
  deriving DecidableEq, Repr

/-- `GRAY` (R11, R477): the four gray levels, shade 0 (lightest) to 3 (darkest). -/
structure Gray where
  g0 : Byte
  g1 : Byte
  g2 : Byte
  g3 : Byte
  deriving DecidableEq, Repr

/-- `COLOR_MIX` (R11, R478, D27): the default formula of R478, or any other map of the 15-bit
palette entries, given as the list of its values in order (assumption 2). -/
inductive ColorMix where
  | formula
  | table (entries : List Rgb)
  deriving DecidableEq, Repr

/-- `CART` (R11, R70, R90, D3): any device, with a state of its own that reads and writes change
(`device`; the number says which one), of which nothing is known. Beside it, two devices that a
program can be known in (DESIGN CHOICE of assumption 3): a cartridge without a controller (`flat`), and
one that answers from its contents until its first write (`unknown`). -/
inductive CartKind where
  | flat
  | unknown (which : Nat)
  | device (which : Nat)
  deriving DecidableEq, Repr

/-- A byte drawn from a device the spec leaves open: the address read, and how many writes the
cartridge had seen by then. With the writes themselves, the list of these says in which order the
cartridge saw its reads and its writes. -/
structure Draw where
  addr   : Word
  writes : Nat
  deriving DecidableEq, Repr

/-- The parameters of R11. `INIT_REGS` and `INIT_RAM` are the arguments of `State.powerOn`, and
`EXT_IO` is `Config.extIoByte` and the list `Env.posts` (its posts, the fourth argument). -/
structure Params where
  model         : Model
  illegalCycles : Nat
  illegalMode   : OpMode
  unusedBit     : Bool
  gray          : Gray
  colorMix      : ColorMix
  oamDma        : OamDma
  hdmaEngine    : HdmaEngine
  haltBug       : Bool
  stopMode      : OpMode
  cart          : CartKind
  deriving DecidableEq, Repr

/-- The defaults of R11. `MODEL` and `CART` have none there: this is the DMG of the vectors of
95_test_vectors.md and the plain cartridge (DESIGN CHOICE, assumptions 1 and 3). -/
def Params.default : Params where
  model         := .dmg
  illegalCycles := 4
  illegalMode   := .nop
  unusedBit     := false
  gray          := ⟨0xFF, 0xC0, 0x60, 0x00⟩
  colorMix      := .formula
  oamDma        := .copy
  hdmaEngine    := .copy
  haltBug       := false
  stopMode      := .nop
  cart          := .flat

/-- The defaults of R11 with `MODEL = CGB`. -/
def Params.defaultCgb : Params := { Params.default with model := .cgb }

/-- FREE VALUE (R97, I9: "treats each such read as a draw (any byte)"): the byte the external I/O
device answers to a read of `a`, after the bytes drawn so far (newest first). -/
opaque Config.extIoByte (draws : List Draw) (a : Nat) : Byte

/-- FREE VALUE (R70, R90, I10): the byte the cartridge `k` answers to a read of `a`, after the writes
`log` it has seen and the bytes drawn so far (newest first): its own state is some function of what it
has seen. -/
opaque Config.cartByte (k : CartKind) (log : List Host.Cell) (draws : List Draw) (a : Nat) : Byte

end Sys2Proof
end

