-- ==== Sys2Proof/Machine/State.lean ====
section
/-! DEFINITION. Every piece of state the spec gives the machine (10_state.md), the model's own four
fields (INVENTORY.md), the two ways a step can stop, and the state after reset (R72). -/

namespace Sys2Proof.Machine

/-- Why the machine stops with a fault. The spec has no fault ("No synchronous exception exists",
R501): no constructor, so no step can fault (safe; assumption 26). -/
inductive Fault where
  deriving DecidableEq, Repr

/-- Why a step has no meaning. -/
inductive Refusal where
  /-- Raised by an arm of `exec` that has no meaning yet (safe: the run ends). -/
  | notModelled (mnemonic : String)
  /-- Raised by the eleven illegal bytes with `ILLEGAL_MODE = refuse` only (R378; safe). -/
  | illegalOpcode (op : Byte)
  /-- Raised by STOP with `STOP_MODE = refuse` only (R377; safe). -/
  | stopRefused
  deriving DecidableEq, Repr

/-- The LCD modes 0 to 3 (R58, R402). -/
inductive LcdMode where
  | hblank
  | vblank
  | oamScan
  | transfer
  deriving DecidableEq, Repr

/-- `hdma_mode` (R59). -/
inductive HdmaMode where
  | gdma
  | hdma
  deriving DecidableEq, Repr

/-- Bytes at addresses, in one canonical form: addresses strictly rising, no byte equal to what an
unlisted address reads as (Machine/Mem.lean). -/
abbrev Memory := List Host.Cell

/-- The registers and control state of the CPU (R31, R37, R39 to R42). BC, DE, HL and AF are views
(R32). `holdPc` is the pending double fetch of the HALT bug (R376, assumption 11). -/
structure Cpu where
  a        : Byte
  f        : Byte
  b        : Byte
  c        : Byte
  d        : Byte
  e        : Byte
  h        : Byte
  l        : Byte
  sp       : Word
  pc       : Word
  ime      : Bool
  imeSched : Fin 3
  halted   : Bool
  holdPc   : Bool
  deriving DecidableEq, Repr

/-- The interrupt controller: IF (R44) and IE (R45), 5 bits each. -/
structure Irq where
  flags  : BitVec 5
  enable : BitVec 5
  deriving DecidableEq, Repr

/-- The PPU's registers and its place in the frame (R48 to R56, R58). `statEn` is STAT[6:3];
BCPS and OCPS are kept as their auto-increment bit and their index. -/
structure Ppu where
  lcdc    : Byte
  statEn  : BitVec 4
  scy     : Byte
  scx     : Byte
  ly      : Byte
  lyc     : Byte
  dma     : Byte
  bgp     : Byte
  obp0    : Byte
  obp1    : Byte
  wy      : Byte
  wx      : Byte
  vbk     : BitVec 1
  bcpsInc : Bool
  bcpsIdx : BitVec 6
  ocpsInc : Bool
  ocpsIdx : BitVec 6
  dots    : Nat
  mode    : LcdMode
  deriving DecidableEq, Repr

/-- The HDMA descriptor (R59). -/
structure Hdma where
  src       : Word
  dst       : Word
  active    : Bool
  mode      : HdmaMode
  remaining : Byte
  deriving DecidableEq, Repr

/-- The memories (R64, R65, R68) and the cartridge's contents (R90), each indexed as the spec
indexes it; the cartridge by bus address. -/
structure Mems where
  cart   : Memory
  vram0  : Memory
  vram1  : Memory
  wram   : Memory
  hram   : Memory
  oam    : Memory
  bgPal  : Memory
  objPal : Memory
  deriving DecidableEq, Repr

/-- One entry of the line priority record (R62): the background-priority bit and the color index. -/
structure Prio where
  bg : Bool
  ci : BitVec 2
  deriving DecidableEq, Repr

/-- The pixel buffer, 144 lines of 160 pixels (R61), and the line priority record (R62). -/
structure Lcd where
  screen : List (List Rgb)
  prio   : List Prio
  deriving DecidableEq, Repr

/-- What comes from outside the block: the interrupt posts still to arrive, one per step (R504, D40),
the device bytes drawn so far, newest first (R97), and the writes a cartridge with a state of its own
has seen, newest first (R90). Assumptions 3, 4 and 5. -/
structure Env where
  posts   : List (BitVec 3)
  draws   : List Draw
  cartLog : List Host.Cell
  deriving DecidableEq, Repr

/-- The machine. `params` are the parameters of R11, which no step changes; `cycles` is the count
the CPU's last `step()` returned (R380, assumption 10). -/
structure State where
  params : Params
  cpu    : Cpu
  irq    : Irq
  ppu    : Ppu
  hdma   : Hdma
  mem    : Mems
  lcd    : Lcd
  env    : Env
  cycles : Nat
  deriving DecidableEq, Repr

/-- What a meaning answers. -/
abbrev Result := Host.Outcome State Fault Refusal

/-- The CPU at reset (R72, D28): the rows "A F B C D E H L", PC, SP and the control state. -/
def Cpu.reset : Model → Cpu
  | .dmg => { a := 0x01, f := 0xB0, b := 0x00, c := 0x13, d := 0x00, e := 0xD8, h := 0x01, l := 0x4D,
              sp := 0xFFFE, pc := 0x0100, ime := false, imeSched := 0, halted := false,
              holdPc := false }
  | .cgb => { a := 0x11, f := 0x80, b := 0x00, c := 0x00, d := 0xFF, e := 0x56, h := 0x00, l := 0x0D,
              sp := 0xFFFE, pc := 0x0100, ime := false, imeSched := 0, halted := false,
              holdPc := false }

/-- The PPU at reset (R72): LCD on, the clean state of R412. -/
def Ppu.reset : Ppu where
  lcdc    := 0x91
  statEn  := 0
  scy     := 0
  scx     := 0
  ly      := 0
  lyc     := 0
  dma     := 0
  bgp     := 0xFC
  obp0    := 0xFF
  obp1    := 0xFF
  wy      := 0
  wx      := 0
  vbk     := 0
  bcpsInc := false
  bcpsIdx := 0
  ocpsInc := false
  ocpsIdx := 0
  dots    := 0
  mode    := .hblank

/-- The HDMA descriptor at reset (R72). R72 gives `hdma_mode` no value: DESIGN CHOICE general-purpose
(assumption 8). -/
def Hdma.reset : Hdma where
  src       := 0
  dst       := 0
  active    := false
  mode      := .gdma
  remaining := 0

/-- Memories with nothing listed (assumption 6). -/
def Mems.empty : Mems where
  cart   := []
  vram0  := []
  vram1  := []
  wram   := []
  hram   := []
  oam    := []
  bgPal  := []
  objPal := []

/-- A screen of one colour (R412, R72). -/
def Lcd.blankScreen (v : Byte) : List (List Rgb) :=
  List.replicate 144 (List.replicate 160 ⟨v, v, v⟩)

/-- The pixel buffer at reset (R72), every byte `GRAY[0]`; the priority record has no reset value in
the spec: DESIGN CHOICE all (0, 0) (assumption 9). -/
def Lcd.reset (g : Gray) : Lcd where
  screen := Lcd.blankScreen g.g0
  prio   := List.replicate 160 ⟨false, 0⟩

/-- The outside world at reset: nothing drawn, written or still to arrive (assumptions 3, 4, 5). -/
def Env.reset : Env where
  posts   := []
  draws   := []
  cartLog := []

/-- `INIT_REGS` (R11, D28): the value of every register at power-on. -/
structure InitRegs where
  cpu  : Cpu
  irq  : Irq
  ppu  : Ppu
  hdma : Hdma
  deriving DecidableEq, Repr

/-- The default of `INIT_REGS`: the table of R72. -/
def InitRegs.default (m : Model) : InitRegs where
  cpu  := Cpu.reset m
  irq  := { flags := 0, enable := 0 }
  ppu  := Ppu.reset
  hdma := Hdma.reset

/-- Power-on (R541, R72) with the parameters `p`, the registers `INIT_REGS`, the contents `INIT_RAM` and
of the cartridge, and the posts of `EXT_IO`. PC, SP and LCDC bit 7 are the source's own, whatever
`INIT_REGS` is (R72, I12). -/
def State.powerOn (p : Params) (regs : InitRegs) (contents : Mems) (posts : List (BitVec 3)) :
    State where
  params := p
  cpu    := { regs.cpu with pc := 0x0100, sp := 0xFFFE }
  irq    := regs.irq
  ppu    := { regs.ppu with lcdc := regs.ppu.lcdc ||| 0x80 }
  hdma   := regs.hdma
  mem    := contents
  lcd    := Lcd.reset p.gray
  env    := { Env.reset with posts := posts }
  cycles := 0

/-- The machine right after reset (R72, R541), with the default parameters. -/
def State.reset : State := State.powerOn Params.default (InitRegs.default .dmg) Mems.empty []

/-- The colour machine right after reset (R72 with `MODEL = CGB`). -/
def State.resetCgb : State := State.powerOn Params.defaultCgb (InitRegs.default .cgb) Mems.empty []

end Sys2Proof.Machine
end

