-- ==== Sys2Proof/Machine/Flags.lean ====
section
/-! DEFINITION. Every flag computation of the spec: the F register (R33, R36), the 8-bit ALU
(R241 to R243), increments (R279, R280), the 16-bit sums (R200, R276), DAA (R291), the rotates and
shifts (R302) and the bit test (R319). -/

namespace Sys2Proof.Machine

/-- F as `SetFlags(z, n, h, c)` leaves it: `{z, n, h, c, 0000}` (R36). -/
def flagByte (z n h c : Bool) : Byte := mask z 0x80 ||| mask n 0x40 ||| mask h 0x20 ||| mask c 0x10

/-- FZ = F[7] (R33). -/
def flagZ (f : Byte) : Bool := bit f 7

/-- FN = F[6] (R33). -/
def flagN (f : Byte) : Bool := bit f 6

/-- FH = F[5] (R33). -/
def flagH (f : Byte) : Bool := bit f 5

/-- FC = F[4] (R33). -/
def flagC (f : Byte) : Bool := bit f 4

/-- A result byte and the four flags it comes with. -/
structure Flagged where
  res : Byte
  z   : Bool
  n   : Bool
  h   : Bool
  c   : Bool
  deriving DecidableEq, Repr

/-- The F register of a flagged result (R36). -/
def Flagged.byte (r : Flagged) : Byte := flagByte r.z r.n r.h r.c

/-- 0 or 1. -/
def carryNat (cin : Bool) : Nat := if cin then 1 else 0

/-- `Add8(a, b, cin)` (R241). -/
def add8 (a b : Byte) (cin : Bool) : Flagged :=
  let full := a.toNat + b.toNat + carryNat cin
  let res := BitVec.ofNat 8 full
  { res, z := res == 0, n := false,
    h := decide (a.toNat % 16 + b.toNat % 16 + carryNat cin > 0xF),
    c := decide (full > 0xFF) }

/-- `Sub8(a, b, cin)` (R242): `full` modulo 256. -/
def sub8 (a b : Byte) (cin : Bool) : Flagged :=
  let res := BitVec.ofInt 8 ((a.toNat : Int) - b.toNat - carryNat cin)
  { res, z := res == 0, n := true,
    h := decide (a.toNat % 16 < b.toNat % 16 + carryNat cin),
    c := decide (a.toNat < b.toNat + carryNat cin) }

/-- The flags of `Logic` (R243): `isAnd` says that the operation is AND. -/
def logic8 (isAnd : Bool) (res : Byte) : Flagged :=
  { res, z := res == 0, n := false, h := isAnd, c := false }

/-- INC r (R279): C keeps its value `c`. -/
def inc8 (v : Byte) (c : Bool) : Flagged :=
  let res := v + 1
  { res, z := res == 0, n := false, h := decide (v.toNat % 16 = 0xF), c }

/-- DEC r (R280): C keeps its value `c`. -/
def dec8 (v : Byte) (c : Bool) : Flagged :=
  let res := v - 1
  { res, z := res == 0, n := true, h := decide (v.toNat % 16 = 0), c }

/-- H of ADD HL,rr: carry out of bit 11 (R276). -/
def addHlH (a b : Word) : Bool := decide (a.toNat % 0x1000 + b.toNat % 0x1000 > 0xFFF)

/-- C of ADD HL,rr: carry out of bit 15 (R276). -/
def addHlC (a b : Word) : Bool := decide (a.toNat + b.toNat > 0xFFFF)

/-- H of `SPAddE(e)`: from the unsigned low nibbles (R200). -/
def spAddH (sp : Word) (e : Byte) : Bool := decide (sp.toNat % 16 + e.toNat % 16 > 0xF)

/-- C of `SPAddE(e)`: from the unsigned low bytes (R200). -/
def spAddC (sp : Word) (e : Byte) : Bool := decide (sp.toNat % 256 + e.toNat > 0xFF)

/-- DAA of `a` under the flags `f` (R291). -/
def daa8 (a f : Byte) : Flagged :=
  if flagN f then
    let a1 := if flagC f then a - 0x60 else a
    let a2 := if flagH f then a1 - 0x06 else a1
    { res := a2, z := a2 == 0, n := true, h := false, c := flagC f }
  else
    let high := flagC f || decide (a.toNat > 0x99)
    let a1 := if high then a + 0x60 else a
    let a2 := if flagH f || decide (a1.toNat % 16 > 0x9) then a1 + 0x06 else a1
    { res := a2, z := a2 == 0, n := false, h := false, c := high }

/-- The eight rotate and shift operations, in the order of their code k (R302). -/
inductive RotOp where
  | rlc
  | rrc
  | rl
  | rr
  | sla
  | sra
  | swap
  | srl
  deriving DecidableEq, Repr

/-- The result of `Rot(k, v)` with the carry flag `c` (R302). -/
def rotRes (k : RotOp) (v : Byte) (c : Bool) : Byte :=
  match k with
  | .rlc  => (v <<< 1) ||| mask (bit v 7) 0x01
  | .rrc  => (v >>> 1) ||| mask (bit v 0) 0x80
  | .rl   => (v <<< 1) ||| mask c 0x01
  | .rr   => (v >>> 1) ||| mask c 0x80
  | .sla  => v <<< 1
  | .sra  => (v >>> 1) ||| mask (bit v 7) 0x80
  | .swap => (v <<< 4) ||| (v >>> 4)
  | .srl  => v >>> 1

/-- The carry out of `Rot(k, v)` (R302). -/
def rotCarry (k : RotOp) (v : Byte) : Bool :=
  match k with
  | .rlc | .rl | .sla => bit v 7
  | .rrc | .rr | .sra | .srl => bit v 0
  | .swap => false

/-- `Rot(k, v)` with the flags every CB rotate or shift sets (R302): Z from the result. -/
def rot8 (k : RotOp) (v : Byte) (c : Bool) : Flagged :=
  let res := rotRes k v c
  { res, z := res == 0, n := false, h := false, c := rotCarry k v }

/-- F after BIT b (R319): Z where the bit is 0, N = 0, H = 1, C kept. -/
def bitTestFlags (v : Byte) (b : Nat) (f : Byte) : Byte := flagByte (!bit v b) false true (flagC f)

end Sys2Proof.Machine
end

