-- ==== Sys2Proof/Machine/Mem.lean ====
section
/-! DEFINITION. Reading and writing one memory, and its canonical form. An unlisted address reads as
`Memory.blank` (DESIGN CHOICE, assumption 6: `INIT_RAM` is open, D29). -/

namespace Sys2Proof.Machine

/-- What an address that is not listed reads as (assumption 6). -/
def Memory.blank : Byte := 0x00

/-- The byte at `a`. -/
def Memory.read : Memory → Nat → Byte
  | [], _ => Memory.blank
  | (k, v) :: m, a => if k = a then v else Memory.read m a

/-- The memory with the byte at `a` set to `v`, in canonical form again. -/
def Memory.write : Memory → Nat → Byte → Memory
  | [], a, v => if v = Memory.blank then [] else [(a, v)]
  | (k, w) :: m, a, v =>
    if a < k then (if v = Memory.blank then (k, w) :: m else (a, v) :: (k, w) :: m)
    else if a = k then (if v = Memory.blank then m else (a, v) :: m)
    else (k, w) :: Memory.write m a v

/-- Addresses from `lowest` on, strictly rising, none listed as `Memory.blank`. -/
def Memory.wfFrom (lowest : Nat) : Memory → Bool
  | [] => true
  | (k, v) :: m => decide (lowest ≤ k) && v != Memory.blank && Memory.wfFrom (k + 1) m

/-- The canonical form. -/
def Memory.wf (m : Memory) : Bool := Memory.wfFrom 0 m

/-- Every listed address is below `size`. -/
def Memory.within (size : Nat) (m : Memory) : Bool := m.all fun c => decide (c.1 < size)

end Sys2Proof.Machine
end

