-- ==== Sys2Proof/Machine/Bus.lean ====
section
/-! DEFINITION. The bus router of 20_memory.md: where each address goes (R84, R95) and what a read of
it returns (R85). A read changes nothing but the model's own record of device bytes drawn
(`State.touch`; R102, assumption 4). -/

namespace Sys2Proof.Machine

/-- The registers of the I/O window that the block owns (R95), and the external device (R97). -/
inductive IoReg where
  | irqFlags
  | lcdc
  | stat
  | scy
  | scx
  | ly
  | lyc
  | dma
  | bgp
  | obp0
  | obp1
  | wy
  | wx
  | vbk
  | hdma1
  | hdma2
  | hdma3
  | hdma4
  | hdma5
  | bcps
  | bcpd
  | ocps
  | ocpd
  | external (a : Nat)
  deriving DecidableEq, Repr

/-- The regions of R84, each with the index it gives the access. -/
inductive Region where
  | cart (a : Nat)
  | vram (i : Nat)
  | wram (i : Nat)
  | oam (i : Nat)
  | unmapped
  | io (r : IoReg)
  | hram (i : Nat)
  | irqEnable
  deriving DecidableEq, Repr

/-- The I/O window (R95). -/
def ioReg (a : Nat) : IoReg :=
  if a = 0xFF0F then .irqFlags
  else if a = 0xFF40 then .lcdc
  else if a = 0xFF41 then .stat
  else if a = 0xFF42 then .scy
  else if a = 0xFF43 then .scx
  else if a = 0xFF44 then .ly
  else if a = 0xFF45 then .lyc
  else if a = 0xFF46 then .dma
  else if a = 0xFF47 then .bgp
  else if a = 0xFF48 then .obp0
  else if a = 0xFF49 then .obp1
  else if a = 0xFF4A then .wy
  else if a = 0xFF4B then .wx
  else if a = 0xFF4F then .vbk
  else if a = 0xFF51 then .hdma1
  else if a = 0xFF52 then .hdma2
  else if a = 0xFF53 then .hdma3
  else if a = 0xFF54 then .hdma4
  else if a = 0xFF55 then .hdma5
  else if a = 0xFF68 then .bcps
  else if a = 0xFF69 then .bcpd
  else if a = 0xFF6A then .ocps
  else if a = 0xFF6B then .ocpd
  else .external a

/-- The address map (R84). Echo RAM is work RAM (R92). -/
def routeNat (a : Nat) : Region :=
  if a < 0x8000 then .cart a
  else if a < 0xA000 then .vram (a - 0x8000)
  else if a < 0xC000 then .cart a
  else if a < 0xE000 then .wram (a - 0xC000)
  else if a < 0xFE00 then .wram (a - 0xE000)
  else if a < 0xFEA0 then .oam (a - 0xFE00)
  else if a < 0xFF00 then .unmapped
  else if a < 0xFF80 then .io (ioReg a)
  else if a < 0xFFFF then .hram (a - 0xFF80)
  else .irqEnable

/-- The region an address is routed to (R84). -/
def route (a : Word) : Region := routeNat a.toNat

/-- `UNUSED_BIT` in the bits of `m`, 0 elsewhere (R11, D5). -/
def State.unusedBits (s : State) (m : Byte) : Byte := mask s.params.unusedBit m

/-- The mode field STAT[1:0] (R49, R58). -/
def LcdMode.bits : LcdMode → Byte
  | .hblank   => 0
  | .vblank   => 1
  | .oamScan  => 2
  | .transfer => 3

/-- A read of STAT (R411). -/
def State.readStat (s : State) : Byte :=
  s.unusedBits 0x80 ||| (s.ppu.statEn.setWidth 8 <<< 3) ||| mask (s.ppu.ly == s.ppu.lyc) 0x04 |||
    s.ppu.mode.bits

/-- A read of BCPS or OCPS: auto-increment, the unused bit 6, the index (R56). -/
def State.readPalIndex (s : State) (inc : Bool) (idx : BitVec 6) : Byte :=
  mask inc 0x80 ||| s.unusedBits 0x40 ||| idx.setWidth 8

/-- A read of HDMA5 (R60). -/
def Hdma.read5 (d : Hdma) : Byte := mask (!d.active) 0x80 ||| ((d.remaining - 1) &&& 0x7F)

/-- A register that only the CGB has: on DMG it reads 0 (R65, D34). -/
def State.cgbOnly (s : State) (v : Byte) : Byte :=
  match s.params.model with
  | .cgb => v
  | .dmg => 0

/-- A read of the I/O window (R95, R97). -/
def State.readIo (s : State) : IoReg → Byte
  | .irqFlags => s.unusedBits 0xE0 ||| s.irq.flags.setWidth 8
  | .lcdc     => s.ppu.lcdc
  | .stat     => s.readStat
  | .scy      => s.ppu.scy
  | .scx      => s.ppu.scx
  | .ly       => s.ppu.ly
  | .lyc      => s.ppu.lyc
  | .dma      => s.ppu.dma
  | .bgp      => s.ppu.bgp
  | .obp0     => s.ppu.obp0
  | .obp1     => s.ppu.obp1
  | .wy       => s.ppu.wy
  | .wx       => s.ppu.wx
  | .vbk      => s.cgbOnly (s.unusedBits 0xFE ||| s.ppu.vbk.setWidth 8)
  | .hdma1    => s.cgbOnly (s.unusedBits 0xFF)
  | .hdma2    => s.cgbOnly (s.unusedBits 0xFF)
  | .hdma3    => s.cgbOnly (s.unusedBits 0xFF)
  | .hdma4    => s.cgbOnly (s.unusedBits 0xFF)
  | .hdma5    => s.cgbOnly s.hdma.read5
  | .bcps     => s.cgbOnly (s.readPalIndex s.ppu.bcpsInc s.ppu.bcpsIdx)
  | .bcpd     => s.cgbOnly (Memory.read s.mem.bgPal s.ppu.bcpsIdx.toNat)
  | .ocps     => s.cgbOnly (s.readPalIndex s.ppu.ocpsInc s.ppu.ocpsIdx)
  | .ocpd     => s.cgbOnly (Memory.read s.mem.objPal s.ppu.ocpsIdx.toNat)
  | .external a => Config.extIoByte s.env.draws a

/-- The cartridge answers from its contents: it is the plain one, or `unknown` and not yet written to
(assumption 3). -/
def State.cartKnown (s : State) : Bool :=
  match s.params.cart with
  | .flat => true
  | .unknown _ => s.env.cartLog.isEmpty
  | .device _ => false

/-- `CART.read(a)` (R90). -/
def State.readCart (s : State) (a : Nat) : Byte :=
  if s.cartKnown then Memory.read s.mem.cart a
  else Config.cartByte s.params.cart s.env.cartLog s.env.draws a

/-- The VRAM bank that CPU accesses reach is bank 1 (R55, R91). -/
def State.bank1 (s : State) : Bool :=
  match s.params.model with
  | .cgb => s.ppu.vbk == 1
  | .dmg => false

/-- A read of video RAM (R91). -/
def State.readVram (s : State) (i : Nat) : Byte :=
  if s.bank1 then Memory.read s.mem.vram1 i else Memory.read s.mem.vram0 i

/-- A read of one region (R84). -/
def State.readRegion (s : State) : Region → Byte
  | .cart a    => s.readCart a
  | .vram i    => s.readVram i
  | .wram i    => Memory.read s.mem.wram i
  | .oam i     => Memory.read s.mem.oam i
  | .unmapped  => 0x00
  | .io r      => s.readIo r
  | .hram i    => Memory.read s.mem.hram i
  | .irqEnable => s.unusedBits 0xE0 ||| s.irq.enable.setWidth 8

/-- `get8(a)` (R85): the byte a bus read returns. -/
def State.peek (s : State) (a : Word) : Byte := s.readRegion (route a)

/-- A read of the region draws a byte from a device of which nothing is known. -/
def State.drawsAt (s : State) : Region → Bool
  | .io (.external _) => true
  | .cart _       => !s.cartKnown
  | _             => false

/-- What a bus read does to the state: nothing, but for the record of device bytes drawn, which is what
a device of its own state sees of it (R102; assumptions 3 and 4). -/
def State.touch (s : State) (a : Word) : State :=
  if s.drawsAt (route a) then { s with env.draws := ⟨a, s.env.cartLog.length⟩ :: s.env.draws } else s

/-- A bus read: the byte and the state after it. -/
def State.get8 (s : State) (a : Word) : Byte × State := (s.peek a, s.touch a)

end Sys2Proof.Machine
end

