-- ==== Sys2Proof/Machine/Dma.lean ====
section
/-! DEFINITION. Stores to the regions other than the I/O window (R84, R86), OAM DMA (R440) and the
HDMA engine (R445 to R448). -/

namespace Sys2Proof.Machine

/-- `CART.write(a, v)` (R90): the plain cartridge ignores stores to its ROM and keeps those to
0xA000-0xBFFF; any other keeps only the record of the write (assumption 3). -/
def State.writeCart (s : State) (a : Nat) (v : Byte) : State :=
  match s.params.cart with
  | .flat => if a < 0x8000 then s else { s with mem.cart := Memory.write s.mem.cart a v }
  | .unknown _ | .device _ => { s with env.cartLog := (a, v) :: s.env.cartLog }

/-- A store to video RAM, in the bank VBK selects (R91). -/
def State.writeVram (s : State) (i : Nat) (v : Byte) : State :=
  if s.bank1 then { s with mem.vram1 := Memory.write s.mem.vram1 i v }
  else { s with mem.vram0 := Memory.write s.mem.vram0 i v }

/-- A store to a region other than the I/O window (R84). A store of an HDMA block never reaches the
I/O window, since the destination lies in VRAM (R59; assumption 15): no effect there. -/
def State.writeMem (s : State) (v : Byte) : Region → State
  | .cart a    => s.writeCart a v
  | .vram i    => s.writeVram i v
  | .wram i    => { s with mem.wram := Memory.write s.mem.wram i v }
  | .oam i     => { s with mem.oam := Memory.write s.mem.oam i v }
  | .unmapped  => s
  | .io _      => s
  | .hram i    => { s with mem.hram := Memory.write s.mem.hram i v }
  | .irqEnable => { s with irq.enable := v.setWidth 5 }

/-- One byte of an OAM DMA (R440): `oam[i] <- get8({page, i})`. -/
def State.oamDmaByte (s : State) (page : Byte) (i : Nat) : State :=
  let (v, t) := s.get8 (word page (BitVec.ofNat 8 i))
  { t with mem.oam := Memory.write t.mem.oam i v }

/-- The bytes `i`, `i + 1`, ..., `i + n - 1` of an OAM DMA, in increasing order (R440). -/
def State.oamDmaFrom (page : Byte) : Nat → Nat → State → State
  | 0, _, s => s
  | n + 1, i, s => State.oamDmaFrom page n (i + 1) (s.oamDmaByte page i)

/-- A write of `v` to DMA (R440). -/
def State.writeDma (s : State) (v : Byte) : State :=
  let t := { s with ppu.dma := v }
  match s.params.oamDma with
  | .copy => State.oamDmaFrom v 160 0 t
  | .stub => t

/-- One byte of an HDMA block (R448): `set8(hdma_dst + i, get8(hdma_src + i))`. -/
def State.hdmaByte (s : State) (i : Nat) : State :=
  let (v, t) := s.get8 (s.hdma.src + BitVec.ofNat 16 i)
  t.writeMem v (route (t.hdma.dst + BitVec.ofNat 16 i))

/-- The bytes `i`, ..., `i + n - 1` of an HDMA block (R448). -/
def State.hdmaBytes : Nat → Nat → State → State
  | 0, _, s => s
  | n + 1, i, s => State.hdmaBytes n (i + 1) (s.hdmaByte i)

/-- The descriptor after a block (R448). -/
def Hdma.advance (d : Hdma) : Hdma :=
  { src := d.src + 16
    dst := 0x8000 ||| ((d.dst + 16) &&& 0x1FF0)
    active := d.active && d.remaining - 1 != 0
    mode := d.mode
    remaining := d.remaining - 1 }

/-- `HdmaBlock()` (R448). With `HDMA_ENGINE = registers_only` no byte moves. -/
def State.hdmaBlock (s : State) : State :=
  let t := match s.params.hdmaEngine with
    | .copy => State.hdmaBytes 16 0 s
    | .registersOnly => s
  { t with hdma := t.hdma.advance }

/-- `n` blocks. -/
def State.hdmaBlocks : Nat → State → State
  | 0, s => s
  | n + 1, s => State.hdmaBlocks n s.hdmaBlock

/-- The block of a mode-0 entry (R449): CGB only, while an H-blank-paced transfer is active. -/
def State.hdmaAtHblank (s : State) : State :=
  match s.params.model, s.hdma.active, s.hdma.mode with
  | .cgb, true, .hdma => s.hdmaBlock
  | _, _, _ => s

/-- A write to HDMA5 (R446, R447). A general-purpose transfer sets `hdma_mode` (assumption 16). -/
def State.writeHdma5 (s : State) (v : Byte) : State :=
  let left : Byte := (v &&& 0x7F) + 1
  if bit v 7 then
    { s with hdma.remaining := left, hdma.mode := .hdma, hdma.active := true }
  else if s.hdma.active then
    { s with hdma.active := false }
  else
    State.hdmaBlocks left.toNat { s with hdma.remaining := left, hdma.mode := .gdma }

end Sys2Proof.Machine
end

