-- ==== Sys2Proof/Machine/Io.lean ====
section
/-! DEFINITION. Writes to the I/O window (R95), with the side effects of R102, and `set8` (R86). -/

namespace Sys2Proof.Machine

/-- The LCD-off reset (R412). -/
def State.lcdOff (s : State) : State :=
  { s with ppu.dots := 0, ppu.ly := 0, ppu.mode := .hblank,
           lcd.screen := Lcd.blankScreen s.params.gray.g0 }

/-- A write of `v` to LCDC (R410): with bit 7 clear the LCD-off reset runs, whatever LCDC was. -/
def State.writeLcdc (s : State) (v : Byte) : State :=
  let t := { s with ppu.lcdc := v }
  if bit v 7 then t else t.lcdOff

/-- A write to BCPD (R476): the index advances, modulo 64, if the auto-increment bit is set. -/
def State.writeBcpd (s : State) (v : Byte) : State :=
  { s with mem.bgPal := Memory.write s.mem.bgPal s.ppu.bcpsIdx.toNat v,
           ppu.bcpsIdx := if s.ppu.bcpsInc then s.ppu.bcpsIdx + 1 else s.ppu.bcpsIdx }

/-- A write to OCPD (R476). -/
def State.writeOcpd (s : State) (v : Byte) : State :=
  { s with mem.objPal := Memory.write s.mem.objPal s.ppu.ocpsIdx.toNat v,
           ppu.ocpsIdx := if s.ppu.ocpsInc then s.ppu.ocpsIdx + 1 else s.ppu.ocpsIdx }

/-- A write that only the CGB performs: DMG ignores it (R65, D34). -/
def State.ifCgb (s t : State) : State :=
  match s.params.model with
  | .cgb => t
  | .dmg => s

/-- A write of `v` to a register of the I/O window (R95). Writes to LY are ignored (R51), and so are
those to the external device, inside the block (R97, I9). -/
def State.writeIo (s : State) (v : Byte) : IoReg → State
  | .irqFlags => { s with irq.flags := v.setWidth 5 }
  | .lcdc     => s.writeLcdc v
  | .stat     => { s with ppu.statEn := v.extractLsb' 3 4 }
  | .scy      => { s with ppu.scy := v }
  | .scx      => { s with ppu.scx := v }
  | .ly       => s
  | .lyc      => { s with ppu.lyc := v }
  | .dma      => s.writeDma v
  | .bgp      => { s with ppu.bgp := v }
  | .obp0     => { s with ppu.obp0 := v }
  | .obp1     => { s with ppu.obp1 := v }
  | .wy       => { s with ppu.wy := v }
  | .wx       => { s with ppu.wx := v }
  | .vbk      => s.ifCgb { s with ppu.vbk := v.setWidth 1 }
  | .hdma1    => s.ifCgb { s with hdma.src := word v (lo s.hdma.src) }
  | .hdma2    => s.ifCgb { s with hdma.src := word (hi s.hdma.src) (v &&& 0xF0) }
  | .hdma3    => s.ifCgb { s with hdma.dst := word (0x80 ||| (v &&& 0x1F)) (lo s.hdma.dst) }
  | .hdma4    => s.ifCgb { s with hdma.dst := word (hi s.hdma.dst) (v &&& 0xF0) }
  | .hdma5    => s.ifCgb (s.writeHdma5 v)
  | .bcps     => s.ifCgb { s with ppu.bcpsInc := bit v 7, ppu.bcpsIdx := v.setWidth 6 }
  | .bcpd     => s.ifCgb (s.writeBcpd v)
  | .ocps     => s.ifCgb { s with ppu.ocpsInc := bit v 7, ppu.ocpsIdx := v.setWidth 6 }
  | .ocpd     => s.ifCgb (s.writeOcpd v)
  | .external _ => s

/-- A store to one region (R84). -/
def State.writeRegion (s : State) (v : Byte) : Region → State
  | .io r => s.writeIo v r
  | r     => s.writeMem v r

/-- `set8(a, v)` (R86): total, never fails. -/
def State.set8 (s : State) (a : Word) (v : Byte) : State := s.writeRegion v (route a)

end Sys2Proof.Machine
end

