-- ==== Sys2Proof/Machine/Operands.lean ====
section
/-! DEFINITION. The operand forms of 30_encoding.md: the 8-bit register field (R135), the pair fields
(R136), the condition field (R137, R341), and `Get`/`Put` of a CB instruction (R301). -/

namespace Sys2Proof.Machine

/-- The 8-bit registers the field `r` names, code 6 apart (R135). -/
inductive Reg8 where
  | b
  | c
  | d
  | e
  | h
  | l
  | a
  deriving DecidableEq, Repr

/-- The pairs of LD rr,nn, INC rr, DEC rr and ADD HL,rr (R136). -/
inductive Pair where
  | bc
  | de
  | hl
  | sp
  deriving DecidableEq, Repr

/-- The pairs of PUSH and POP (R136). -/
inductive StackPair where
  | bc
  | de
  | hl
  | af
  deriving DecidableEq, Repr

/-- The conditions (R137). -/
inductive Cond where
  | nz
  | z
  | nc
  | c
  deriving DecidableEq, Repr

/-- The operand field `z` with its code 6, the byte at HL (R135, R301). -/
inductive Operand where
  | reg (r : Reg8)
  | indHl
  deriving DecidableEq, Repr

/-- The code of a register in the field `r` (R135). -/
def Reg8.code : Reg8 → Nat
  | .b => 0
  | .c => 1
  | .d => 2
  | .e => 3
  | .h => 4
  | .l => 5
  | .a => 7

/-- The code of an operand in the field `z` (R135). -/
def Operand.code : Operand → Nat
  | .reg r => r.code
  | .indHl => 6

/-- The operand with code `z`; the field has three bits (R135). -/
def Operand.ofCode (z : BitVec 3) : Operand :=
  match z with
  | 0 => .reg .b
  | 1 => .reg .c
  | 2 => .reg .d
  | 3 => .reg .e
  | 4 => .reg .h
  | 5 => .reg .l
  | 6 => .indHl
  | 7 => .reg .a

/-- The code of a pair in the field `p` (R136). -/
def Pair.code : Pair → Nat
  | .bc => 0
  | .de => 1
  | .hl => 2
  | .sp => 3

/-- The code of a stack pair in the field `p` (R136). -/
def StackPair.code : StackPair → Nat
  | .bc => 0
  | .de => 1
  | .hl => 2
  | .af => 3

/-- The code of a condition in the field `cc` (R137). -/
def Cond.code : Cond → Nat
  | .nz => 0
  | .z  => 1
  | .nc => 2
  | .c  => 3

/-- The value of an 8-bit register (R31). -/
def State.reg (s : State) : Reg8 → Byte
  | .b => s.cpu.b
  | .c => s.cpu.c
  | .d => s.cpu.d
  | .e => s.cpu.e
  | .h => s.cpu.h
  | .l => s.cpu.l
  | .a => s.cpu.a

/-- `r <- v` for an 8-bit register (R31). -/
def State.setReg (s : State) (r : Reg8) (v : Byte) : State :=
  match r with
  | .b => { s with cpu.b := v }
  | .c => { s with cpu.c := v }
  | .d => { s with cpu.d := v }
  | .e => { s with cpu.e := v }
  | .h => { s with cpu.h := v }
  | .l => { s with cpu.l := v }
  | .a => { s with cpu.a := v }

/-- `F <- v`, through `SetFlags` or POP AF only (R34). -/
def State.setF (s : State) (v : Byte) : State := { s with cpu.f := v }

/-- `PC <- v` (R14). -/
def State.setPc (s : State) (v : Word) : State := { s with cpu.pc := v }

/-- `SP <- v` (R39). -/
def State.setSp (s : State) (v : Word) : State := { s with cpu.sp := v }

/-- BC = {B, C} (R32). -/
def State.bc (s : State) : Word := word s.cpu.b s.cpu.c

/-- DE = {D, E} (R32). -/
def State.de (s : State) : Word := word s.cpu.d s.cpu.e

/-- HL = {H, L} (R32). -/
def State.hl (s : State) : Word := word s.cpu.h s.cpu.l

/-- AF = {A, F} (R32). -/
def State.af (s : State) : Word := word s.cpu.a s.cpu.f

/-- `HL <- v`, both halves at once (R32). -/
def State.setHl (s : State) (v : Word) : State := { s with cpu.h := hi v, cpu.l := lo v }

/-- The value of a pair (R136). -/
def State.pair (s : State) : Pair → Word
  | .bc => s.bc
  | .de => s.de
  | .hl => s.hl
  | .sp => s.cpu.sp

/-- `rr <- v` for a pair, both halves at once (R32, R136). -/
def State.setPair (s : State) (p : Pair) (v : Word) : State :=
  match p with
  | .bc => { s with cpu.b := hi v, cpu.c := lo v }
  | .de => { s with cpu.d := hi v, cpu.e := lo v }
  | .hl => s.setHl v
  | .sp => s.setSp v

/-- The value PUSH stores (R136, R354). -/
def State.stackPair (s : State) : StackPair → Word
  | .bc => s.bc
  | .de => s.de
  | .hl => s.hl
  | .af => s.af

/-- What POP writes (R355): AF drops the low nibble of F. -/
def State.setStackPair (s : State) (p : StackPair) (v : Word) : State :=
  match p with
  | .bc => s.setPair .bc v
  | .de => s.setPair .de v
  | .hl => s.setPair .hl v
  | .af => { s with cpu.a := hi v, cpu.f := lo v &&& 0xF0 }

/-- `Cond(cc)` (R341). -/
def State.cond (s : State) : Cond → Bool
  | .nz => !flagZ s.cpu.f
  | .z  => flagZ s.cpu.f
  | .nc => !flagC s.cpu.f
  | .c  => flagC s.cpu.f

/-- `Get(z)` (R301): the byte and the state after the read. -/
def State.getOperand (s : State) : Operand → Byte × State
  | .reg r => (s.reg r, s)
  | .indHl => s.get8 s.hl

/-- `Put(z, v)` (R301). -/
def State.putOperand (s : State) (z : Operand) (v : Byte) : State :=
  match z with
  | .reg r => s.setReg r v
  | .indHl => s.set8 s.hl v

end Sys2Proof.Machine
end

