-- ==== Sys2Proof/Machine/Ops.lean ====
section
/-! DEFINITION. The named operations of a step: fetching (R15, R37), the 16-bit accesses (R87), the
stack (R342), interrupt requests and interrupt entry (R503 to R508), the return from an interrupt
(R352), the EI count-down (R379), and how a meaning ends. -/

namespace Sys2Proof.Machine

/-- An instruction ends in the state `s`, having taken `c` dots (R380). -/
def finish (c : Nat) (s : State) : Result := .next { s with cycles := c }

/-- `Fetch8()` (R15): the byte at PC, and PC + 1, which wraps (R37). -/
def State.fetch8 (s : State) : Byte × State :=
  let (v, t) := s.get8 s.cpu.pc
  (v, t.setPc (s.cpu.pc + 1))

/-- The opcode fetch (R372). After a HALT-bug HALT it does not advance PC (R376, assumption 11). -/
def State.fetchOpcode (s : State) : Byte × State :=
  if s.cpu.holdPc then
    let (v, t) := s.get8 s.cpu.pc
    (v, { t with cpu.holdPc := false })
  else s.fetch8

/-- `Fetch16()` (R15): the low byte first (R88). -/
def State.fetch16 (s : State) : Word × State :=
  let (l, t) := s.fetch8
  let (h, u) := t.fetch8
  (word h l, u)

/-- `get16(a)` (R87): the byte at `a`, then the byte at `a + 1`, which wraps. -/
def State.get16 (s : State) (a : Word) : Word × State :=
  let (l, t) := s.get8 a
  let (h, u) := t.get8 (a + 1)
  (word h l, u)

/-- `set16(a, v)` (R87): the low byte at `a`, then the high byte at `a + 1`, which wraps. -/
def State.set16 (s : State) (a v : Word) : State := (s.set8 a (lo v)).set8 (a + 1) (hi v)

/-- `Push16(v)` (R342): SP decrements before the write. -/
def State.push16 (s : State) (v : Word) : State :=
  let sp := s.cpu.sp - 2
  (s.setSp sp).set16 sp v

/-- `Pop16()` (R342): SP increments after the read. -/
def State.pop16 (s : State) : Word × State :=
  let (v, t) := s.get16 s.cpu.sp
  (v, t.setSp (s.cpu.sp + 2))

/-- `Request(k)` for the requests `m`: ORed into IF (R503). -/
def State.request (s : State) (m : BitVec 5) : State := { s with irq.flags := s.irq.flags ||| m }

/-- `pend` (R506): the requests that are pending and enabled. -/
def State.pend (s : State) : BitVec 5 := s.irq.enable &&& s.irq.flags

/-- The lowest set bit of a non-zero `pend` (R508). -/
def lowestSet (p : BitVec 5) : Nat :=
  if p.getLsbD 0 then 0
  else if p.getLsbD 1 then 1
  else if p.getLsbD 2 then 2
  else if p.getLsbD 3 then 3
  else 4

/-- The vector of interrupt `k` (R505). -/
def vector (k : Nat) : Word := 0x0040 + BitVec.ofNat 16 (8 * k)

/-- Interrupt entry for interrupt `k`, a whole step (R507): the one way an exception is taken. -/
def State.enterInterrupt (s : State) (k : Nat) : State :=
  let t := { s with irq.flags := s.irq.flags &&& ~~~((1 : BitVec 5) <<< k),
                    cpu.ime := false, cpu.imeSched := 0 }
  { (t.push16 t.cpu.pc).setPc (vector k) with cycles := 20 }

/-- The return from an interrupt (R352): PC from the stack, IME set at once. -/
def State.returnFromInterrupt (s : State) : State :=
  let (v, t) := s.pop16
  { t.setPc v with cpu.ime := true, cpu.imeSched := 0 }

/-- The end-of-instruction count-down of the EI delay (R379). -/
def State.countDown (s : State) : State :=
  match s.cpu.imeSched with
  | 0 => s
  | 1 => { s with cpu.imeSched := 0, cpu.ime := true }
  | 2 => { s with cpu.imeSched := 1 }

/-- The posts of the external devices that arrive after this step's tick: a subset of IF bits 4..2
(R504, R390, assumption 5). -/
def State.takePosts (s : State) : State :=
  match s.env.posts with
  | [] => s
  | p :: rest => { s with irq.flags := s.irq.flags ||| (p.setWidth 5 <<< 2), env.posts := rest }

/-- An address whose bytes are plain storage, so that a program can be placed there. -/
def Region.storage : Region → Bool
  | .cart _ | .vram _ | .wram _ | .oam _ | .hram _ => true
  | .unmapped | .io _ | .irqEnable => false

/-- The loader's store: the byte is in the region's storage, whatever a bus store would do there
(the cartridge's contents are given from outside, assumption 20). -/
def State.place (s : State) (a : Word) (v : Byte) : State :=
  match route a with
  | .cart n => { s with mem.cart := Memory.write s.mem.cart n v }
  | r => s.writeMem v r

end Sys2Proof.Machine
end

