-- ==== Sys2Proof/Machine/Alu16.lean ====
section
/-! DEFINITION. 16-bit arithmetic (42_alu16_incdec.md R276 to R278). -/

namespace Sys2Proof.Machine

/-- `HL <- HL + rp[p]`, Z kept, H from bit 11, C from bit 15 (R276). -/
def addHlPair (p : Pair) (s : State) : Result :=
  finish 8 ((s.setHl (s.hl + s.pair p)).setF
    (flagByte (flagZ s.cpu.f) false (addHlH s.hl (s.pair p)) (addHlC s.hl (s.pair p))))

/-- `rp[p] <- rp[p] + 1`; F untouched (R277). -/
def incPair (p : Pair) (s : State) : Result := finish 8 (s.setPair p (s.pair p + 1))

/-- `rp[p] <- rp[p] - 1`; F untouched (R278). -/
def decPair (p : Pair) (s : State) : Result := finish 8 (s.setPair p (s.pair p - 1))

/-- INC BC (R277). -/
def execIncBc (s : State) : Result := incPair .bc s

/-- ADD HL,BC (R276). -/
def execAddHlBc (s : State) : Result := addHlPair .bc s

/-- DEC BC (R278). -/
def execDecBc (s : State) : Result := decPair .bc s

/-- INC DE (R277). -/
def execIncDe (s : State) : Result := incPair .de s

/-- ADD HL,DE (R276). -/
def execAddHlDe (s : State) : Result := addHlPair .de s

/-- DEC DE (R278). -/
def execDecDe (s : State) : Result := decPair .de s

/-- INC HL (R277). -/
def execIncHl (s : State) : Result := incPair .hl s

/-- ADD HL,HL (R276). -/
def execAddHlHl (s : State) : Result := addHlPair .hl s

/-- DEC HL (R278). -/
def execDecHl (s : State) : Result := decPair .hl s

/-- INC SP (R277). -/
def execIncSp (s : State) : Result := incPair .sp s

/-- ADD HL,SP (R276). -/
def execAddHlSp (s : State) : Result := addHlPair .sp s

/-- DEC SP (R278). -/
def execDecSp (s : State) : Result := decPair .sp s

end Sys2Proof.Machine
end

