-- ==== Sys2Proof/Machine/Alu8.lean ====
section
/-! DEFINITION. The 8-bit ALU (41_alu8.md R244 to R267) in its register, (HL) and immediate forms. -/

namespace Sys2Proof.Machine

/-- The eight ALU operations, in the order of their code k (R141). -/
inductive AluOp where
  | add
  | adc
  | sub
  | sbc
  | and
  | xor
  | or
  | cp
  deriving DecidableEq, Repr

/-- The result and the flags of an ALU operation on A, an operand and the carry flag
(R244 to R267). -/
def alu8 (op : AluOp) (a v : Byte) (c : Bool) : Flagged :=
  match op with
  | .add => add8 a v false
  | .adc => add8 a v c
  | .sub => sub8 a v false
  | .sbc => sub8 a v c
  | .and => logic8 true (a &&& v)
  | .xor => logic8 false (a ^^^ v)
  | .or  => logic8 false (a ||| v)
  | .cp  => sub8 a v false

/-- The operation with operand `v`: CP writes the flags only (R265). -/
def State.alu (s : State) (op : AluOp) (v : Byte) : State :=
  let r := alu8 op s.cpu.a v (flagC s.cpu.f)
  match op with
  | .cp => s.setF r.byte
  | _ => (s.setReg .a r.res).setF r.byte

/-- The register form. -/
def aluReg (op : AluOp) (r : Reg8) (s : State) : Result := finish 4 (s.alu op (s.reg r))

/-- The (HL) form. -/
def aluMem (op : AluOp) (s : State) : Result :=
  let (v, t) := s.get8 s.hl
  finish 8 (t.alu op v)

/-- The immediate form. -/
def aluImm (op : AluOp) (n : Byte) (s : State) : Result := finish 8 (s.alu op n)

/-- ADD A,B (R244). -/
def execAddAB (s : State) : Result := aluReg .add .b s

/-- ADD A,C (R244). -/
def execAddAC (s : State) : Result := aluReg .add .c s

/-- ADD A,D (R244). -/
def execAddAD (s : State) : Result := aluReg .add .d s

/-- ADD A,E (R244). -/
def execAddAE (s : State) : Result := aluReg .add .e s

/-- ADD A,H (R244). -/
def execAddAH (s : State) : Result := aluReg .add .h s

/-- ADD A,L (R244). -/
def execAddAL (s : State) : Result := aluReg .add .l s

/-- ADD A,(HL) (R245). -/
def execAddAIndHl (s : State) : Result := aluMem .add s

/-- ADD A,A (R244). -/
def execAddAA (s : State) : Result := aluReg .add .a s

/-- ADC A,B (R247). -/
def execAdcAB (s : State) : Result := aluReg .adc .b s

/-- ADC A,C (R247). -/
def execAdcAC (s : State) : Result := aluReg .adc .c s

/-- ADC A,D (R247). -/
def execAdcAD (s : State) : Result := aluReg .adc .d s

/-- ADC A,E (R247). -/
def execAdcAE (s : State) : Result := aluReg .adc .e s

/-- ADC A,H (R247). -/
def execAdcAH (s : State) : Result := aluReg .adc .h s

/-- ADC A,L (R247). -/
def execAdcAL (s : State) : Result := aluReg .adc .l s

/-- ADC A,(HL) (R248). -/
def execAdcAIndHl (s : State) : Result := aluMem .adc s

/-- ADC A,A (R247). -/
def execAdcAA (s : State) : Result := aluReg .adc .a s

/-- SUB A,B (R250). -/
def execSubAB (s : State) : Result := aluReg .sub .b s

/-- SUB A,C (R250). -/
def execSubAC (s : State) : Result := aluReg .sub .c s

/-- SUB A,D (R250). -/
def execSubAD (s : State) : Result := aluReg .sub .d s

/-- SUB A,E (R250). -/
def execSubAE (s : State) : Result := aluReg .sub .e s

/-- SUB A,H (R250). -/
def execSubAH (s : State) : Result := aluReg .sub .h s

/-- SUB A,L (R250). -/
def execSubAL (s : State) : Result := aluReg .sub .l s

/-- SUB A,(HL) (R251). -/
def execSubAIndHl (s : State) : Result := aluMem .sub s

/-- SUB A,A (R250). -/
def execSubAA (s : State) : Result := aluReg .sub .a s

/-- SBC A,B (R253). -/
def execSbcAB (s : State) : Result := aluReg .sbc .b s

/-- SBC A,C (R253). -/
def execSbcAC (s : State) : Result := aluReg .sbc .c s

/-- SBC A,D (R253). -/
def execSbcAD (s : State) : Result := aluReg .sbc .d s

/-- SBC A,E (R253). -/
def execSbcAE (s : State) : Result := aluReg .sbc .e s

/-- SBC A,H (R253). -/
def execSbcAH (s : State) : Result := aluReg .sbc .h s

/-- SBC A,L (R253). -/
def execSbcAL (s : State) : Result := aluReg .sbc .l s

/-- SBC A,(HL) (R254). -/
def execSbcAIndHl (s : State) : Result := aluMem .sbc s

/-- SBC A,A (R253). -/
def execSbcAA (s : State) : Result := aluReg .sbc .a s

/-- AND A,B (R256). -/
def execAndAB (s : State) : Result := aluReg .and .b s

/-- AND A,C (R256). -/
def execAndAC (s : State) : Result := aluReg .and .c s

/-- AND A,D (R256). -/
def execAndAD (s : State) : Result := aluReg .and .d s

/-- AND A,E (R256). -/
def execAndAE (s : State) : Result := aluReg .and .e s

/-- AND A,H (R256). -/
def execAndAH (s : State) : Result := aluReg .and .h s

/-- AND A,L (R256). -/
def execAndAL (s : State) : Result := aluReg .and .l s

/-- AND A,(HL) (R257). -/
def execAndAIndHl (s : State) : Result := aluMem .and s

/-- AND A,A (R256). -/
def execAndAA (s : State) : Result := aluReg .and .a s

/-- XOR A,B (R259). -/
def execXorAB (s : State) : Result := aluReg .xor .b s

/-- XOR A,C (R259). -/
def execXorAC (s : State) : Result := aluReg .xor .c s

/-- XOR A,D (R259). -/
def execXorAD (s : State) : Result := aluReg .xor .d s

/-- XOR A,E (R259). -/
def execXorAE (s : State) : Result := aluReg .xor .e s

/-- XOR A,H (R259). -/
def execXorAH (s : State) : Result := aluReg .xor .h s

/-- XOR A,L (R259). -/
def execXorAL (s : State) : Result := aluReg .xor .l s

/-- XOR A,(HL) (R260). -/
def execXorAIndHl (s : State) : Result := aluMem .xor s

/-- XOR A,A (R259). -/
def execXorAA (s : State) : Result := aluReg .xor .a s

/-- OR A,B (R262). -/
def execOrAB (s : State) : Result := aluReg .or .b s

/-- OR A,C (R262). -/
def execOrAC (s : State) : Result := aluReg .or .c s

/-- OR A,D (R262). -/
def execOrAD (s : State) : Result := aluReg .or .d s

/-- OR A,E (R262). -/
def execOrAE (s : State) : Result := aluReg .or .e s

/-- OR A,H (R262). -/
def execOrAH (s : State) : Result := aluReg .or .h s

/-- OR A,L (R262). -/
def execOrAL (s : State) : Result := aluReg .or .l s

/-- OR A,(HL) (R263). -/
def execOrAIndHl (s : State) : Result := aluMem .or s

/-- OR A,A (R262). -/
def execOrAA (s : State) : Result := aluReg .or .a s

/-- CP A,B (R265). -/
def execCpAB (s : State) : Result := aluReg .cp .b s

/-- CP A,C (R265). -/
def execCpAC (s : State) : Result := aluReg .cp .c s

/-- CP A,D (R265). -/
def execCpAD (s : State) : Result := aluReg .cp .d s

/-- CP A,E (R265). -/
def execCpAE (s : State) : Result := aluReg .cp .e s

/-- CP A,H (R265). -/
def execCpAH (s : State) : Result := aluReg .cp .h s

/-- CP A,L (R265). -/
def execCpAL (s : State) : Result := aluReg .cp .l s

/-- CP A,(HL) (R266). -/
def execCpAIndHl (s : State) : Result := aluMem .cp s

/-- CP A,A (R265). -/
def execCpAA (s : State) : Result := aluReg .cp .a s

/-- ADD A,n (R246). -/
def execAddAN (n : Byte) (s : State) : Result := aluImm .add n s

/-- ADC A,n (R249). -/
def execAdcAN (n : Byte) (s : State) : Result := aluImm .adc n s

/-- SUB A,n (R252). -/
def execSubAN (n : Byte) (s : State) : Result := aluImm .sub n s

/-- SBC A,n (R255). -/
def execSbcAN (n : Byte) (s : State) : Result := aluImm .sbc n s

/-- AND A,n (R258). -/
def execAndAN (n : Byte) (s : State) : Result := aluImm .and n s

/-- XOR A,n (R261). -/
def execXorAN (n : Byte) (s : State) : Result := aluImm .xor n s

/-- OR A,n (R264). -/
def execOrAN (n : Byte) (s : State) : Result := aluImm .or n s

/-- CP A,n (R267). -/
def execCpAN (n : Byte) (s : State) : Result := aluImm .cp n s

end Sys2Proof.Machine
end

