-- ==== Sys2Proof/Machine/Cb.lean ====
section
/-! DEFINITION. The CB instructions (44_cb_bitops.md R303 to R324) and the prefix itself (R373). -/

namespace Sys2Proof.Machine

/-- `r` dots on a register, `m` on the byte at HL (R143). -/
def Operand.dots (z : Operand) (r m : Nat) : Nat :=
  match z with
  | .reg _ => r
  | .indHl => m

/-- A rotate or shift (R303 to R318): one read, one write, `SetFlags(res == 0, 0, 0, cout)`. -/
def cbRotate (k : RotOp) (z : Operand) (s : State) : Result :=
  let (v, t) := s.getOperand z
  let o := rot8 k v (flagC s.cpu.f)
  finish (z.dots 8 16) ((t.putOperand z o.res).setF o.byte)

/-- BIT b (R319, R320): the operand is not written. -/
def cbTest (b : Nat) (z : Operand) (s : State) : Result :=
  let (v, t) := s.getOperand z
  finish (z.dots 8 12) (t.setF (bitTestFlags v b s.cpu.f))

/-- RES b (R321, R322): the write happens even when the bit was clear. -/
def cbReset (b : Nat) (z : Operand) (s : State) : Result :=
  let (v, t) := s.getOperand z
  finish (z.dots 8 16) (t.putOperand z (clearBit v b))

/-- SET b (R323, R324). -/
def cbSet (b : Nat) (z : Operand) (s : State) : Result :=
  let (v, t) := s.getOperand z
  finish (z.dots 8 16) (t.putOperand z (putBit v b))

/-- The operation with code `k` of a CB opcode with x = 0 (R139, R302). -/
def RotOp.ofCode (k : BitVec 3) : RotOp :=
  match k with
  | 0 => .rlc
  | 1 => .rrc
  | 2 => .rl
  | 3 => .rr
  | 4 => .sla
  | 5 => .sra
  | 6 => .swap
  | 7 => .srl

/-- The CB instruction with second byte `op2`, from its fields x, y and z (R139, R373). -/
def cbByFields (op2 : Byte) (s : State) : Result :=
  let y := op2.extractLsb' 3 3
  let z := Operand.ofCode (op2.extractLsb' 0 3)
  match op2.extractLsb' 6 2 with
  | 0 => cbRotate (RotOp.ofCode y) z s
  | 1 => cbTest y.toNat z s
  | 2 => cbReset y.toNat z s
  | 3 => cbSet y.toNat z s

/-- The prefix 0xCB with the byte after it (R373). -/
def execPrefixCb (op2 : Byte) (s : State) : Result := cbByFields op2 s

/-- RLC B (R303). -/
def execRlcB (s : State) : Result := cbRotate .rlc (.reg .b) s

/-- RLC C (R303). -/
def execRlcC (s : State) : Result := cbRotate .rlc (.reg .c) s

/-- RLC D (R303). -/
def execRlcD (s : State) : Result := cbRotate .rlc (.reg .d) s

/-- RLC E (R303). -/
def execRlcE (s : State) : Result := cbRotate .rlc (.reg .e) s

/-- RLC H (R303). -/
def execRlcH (s : State) : Result := cbRotate .rlc (.reg .h) s

/-- RLC L (R303). -/
def execRlcL (s : State) : Result := cbRotate .rlc (.reg .l) s

/-- RLC (HL) (R304). -/
def execRlcIndHl (s : State) : Result := cbRotate .rlc .indHl s

/-- RLC A (R303). -/
def execRlcA (s : State) : Result := cbRotate .rlc (.reg .a) s

/-- RRC B (R305). -/
def execRrcB (s : State) : Result := cbRotate .rrc (.reg .b) s

/-- RRC C (R305). -/
def execRrcC (s : State) : Result := cbRotate .rrc (.reg .c) s

/-- RRC D (R305). -/
def execRrcD (s : State) : Result := cbRotate .rrc (.reg .d) s

/-- RRC E (R305). -/
def execRrcE (s : State) : Result := cbRotate .rrc (.reg .e) s

/-- RRC H (R305). -/
def execRrcH (s : State) : Result := cbRotate .rrc (.reg .h) s

/-- RRC L (R305). -/
def execRrcL (s : State) : Result := cbRotate .rrc (.reg .l) s

/-- RRC (HL) (R306). -/
def execRrcIndHl (s : State) : Result := cbRotate .rrc .indHl s

/-- RRC A (R305). -/
def execRrcA (s : State) : Result := cbRotate .rrc (.reg .a) s

/-- RL B (R307). -/
def execRlB (s : State) : Result := cbRotate .rl (.reg .b) s

/-- RL C (R307). -/
def execRlC (s : State) : Result := cbRotate .rl (.reg .c) s

/-- RL D (R307). -/
def execRlD (s : State) : Result := cbRotate .rl (.reg .d) s

/-- RL E (R307). -/
def execRlE (s : State) : Result := cbRotate .rl (.reg .e) s

/-- RL H (R307). -/
def execRlH (s : State) : Result := cbRotate .rl (.reg .h) s

/-- RL L (R307). -/
def execRlL (s : State) : Result := cbRotate .rl (.reg .l) s

/-- RL (HL) (R308). -/
def execRlIndHl (s : State) : Result := cbRotate .rl .indHl s

/-- RL A (R307). -/
def execRlA (s : State) : Result := cbRotate .rl (.reg .a) s

/-- RR B (R309). -/
def execRrB (s : State) : Result := cbRotate .rr (.reg .b) s

/-- RR C (R309). -/
def execRrC (s : State) : Result := cbRotate .rr (.reg .c) s

/-- RR D (R309). -/
def execRrD (s : State) : Result := cbRotate .rr (.reg .d) s

/-- RR E (R309). -/
def execRrE (s : State) : Result := cbRotate .rr (.reg .e) s

/-- RR H (R309). -/
def execRrH (s : State) : Result := cbRotate .rr (.reg .h) s

/-- RR L (R309). -/
def execRrL (s : State) : Result := cbRotate .rr (.reg .l) s

/-- RR (HL) (R310). -/
def execRrIndHl (s : State) : Result := cbRotate .rr .indHl s

/-- RR A (R309). -/
def execRrA (s : State) : Result := cbRotate .rr (.reg .a) s

/-- SLA B (R311). -/
def execSlaB (s : State) : Result := cbRotate .sla (.reg .b) s

/-- SLA C (R311). -/
def execSlaC (s : State) : Result := cbRotate .sla (.reg .c) s

/-- SLA D (R311). -/
def execSlaD (s : State) : Result := cbRotate .sla (.reg .d) s

/-- SLA E (R311). -/
def execSlaE (s : State) : Result := cbRotate .sla (.reg .e) s

/-- SLA H (R311). -/
def execSlaH (s : State) : Result := cbRotate .sla (.reg .h) s

/-- SLA L (R311). -/
def execSlaL (s : State) : Result := cbRotate .sla (.reg .l) s

/-- SLA (HL) (R312). -/
def execSlaIndHl (s : State) : Result := cbRotate .sla .indHl s

/-- SLA A (R311). -/
def execSlaA (s : State) : Result := cbRotate .sla (.reg .a) s

/-- SRA B (R313). -/
def execSraB (s : State) : Result := cbRotate .sra (.reg .b) s

/-- SRA C (R313). -/
def execSraC (s : State) : Result := cbRotate .sra (.reg .c) s

/-- SRA D (R313). -/
def execSraD (s : State) : Result := cbRotate .sra (.reg .d) s

/-- SRA E (R313). -/
def execSraE (s : State) : Result := cbRotate .sra (.reg .e) s

/-- SRA H (R313). -/
def execSraH (s : State) : Result := cbRotate .sra (.reg .h) s

/-- SRA L (R313). -/
def execSraL (s : State) : Result := cbRotate .sra (.reg .l) s

/-- SRA (HL) (R314). -/
def execSraIndHl (s : State) : Result := cbRotate .sra .indHl s

/-- SRA A (R313). -/
def execSraA (s : State) : Result := cbRotate .sra (.reg .a) s

/-- SWAP B (R315). -/
def execSwapB (s : State) : Result := cbRotate .swap (.reg .b) s

/-- SWAP C (R315). -/
def execSwapC (s : State) : Result := cbRotate .swap (.reg .c) s

/-- SWAP D (R315). -/
def execSwapD (s : State) : Result := cbRotate .swap (.reg .d) s

/-- SWAP E (R315). -/
def execSwapE (s : State) : Result := cbRotate .swap (.reg .e) s

/-- SWAP H (R315). -/
def execSwapH (s : State) : Result := cbRotate .swap (.reg .h) s

/-- SWAP L (R315). -/
def execSwapL (s : State) : Result := cbRotate .swap (.reg .l) s

/-- SWAP (HL) (R316). -/
def execSwapIndHl (s : State) : Result := cbRotate .swap .indHl s

/-- SWAP A (R315). -/
def execSwapA (s : State) : Result := cbRotate .swap (.reg .a) s

/-- SRL B (R317). -/
def execSrlB (s : State) : Result := cbRotate .srl (.reg .b) s

/-- SRL C (R317). -/
def execSrlC (s : State) : Result := cbRotate .srl (.reg .c) s

/-- SRL D (R317). -/
def execSrlD (s : State) : Result := cbRotate .srl (.reg .d) s

/-- SRL E (R317). -/
def execSrlE (s : State) : Result := cbRotate .srl (.reg .e) s

/-- SRL H (R317). -/
def execSrlH (s : State) : Result := cbRotate .srl (.reg .h) s

/-- SRL L (R317). -/
def execSrlL (s : State) : Result := cbRotate .srl (.reg .l) s

/-- SRL (HL) (R318). -/
def execSrlIndHl (s : State) : Result := cbRotate .srl .indHl s

/-- SRL A (R317). -/
def execSrlA (s : State) : Result := cbRotate .srl (.reg .a) s

/-- BIT 0,B (R319). -/
def execBit0B (s : State) : Result := cbTest 0 (.reg .b) s

/-- BIT 0,C (R319). -/
def execBit0C (s : State) : Result := cbTest 0 (.reg .c) s

/-- BIT 0,D (R319). -/
def execBit0D (s : State) : Result := cbTest 0 (.reg .d) s

/-- BIT 0,E (R319). -/
def execBit0E (s : State) : Result := cbTest 0 (.reg .e) s

/-- BIT 0,H (R319). -/
def execBit0H (s : State) : Result := cbTest 0 (.reg .h) s

/-- BIT 0,L (R319). -/
def execBit0L (s : State) : Result := cbTest 0 (.reg .l) s

/-- BIT 0,(HL) (R320). -/
def execBit0IndHl (s : State) : Result := cbTest 0 .indHl s

/-- BIT 0,A (R319). -/
def execBit0A (s : State) : Result := cbTest 0 (.reg .a) s

/-- BIT 1,B (R319). -/
def execBit1B (s : State) : Result := cbTest 1 (.reg .b) s

/-- BIT 1,C (R319). -/
def execBit1C (s : State) : Result := cbTest 1 (.reg .c) s

/-- BIT 1,D (R319). -/
def execBit1D (s : State) : Result := cbTest 1 (.reg .d) s

/-- BIT 1,E (R319). -/
def execBit1E (s : State) : Result := cbTest 1 (.reg .e) s

/-- BIT 1,H (R319). -/
def execBit1H (s : State) : Result := cbTest 1 (.reg .h) s

/-- BIT 1,L (R319). -/
def execBit1L (s : State) : Result := cbTest 1 (.reg .l) s

/-- BIT 1,(HL) (R320). -/
def execBit1IndHl (s : State) : Result := cbTest 1 .indHl s

/-- BIT 1,A (R319). -/
def execBit1A (s : State) : Result := cbTest 1 (.reg .a) s

/-- BIT 2,B (R319). -/
def execBit2B (s : State) : Result := cbTest 2 (.reg .b) s

/-- BIT 2,C (R319). -/
def execBit2C (s : State) : Result := cbTest 2 (.reg .c) s

/-- BIT 2,D (R319). -/
def execBit2D (s : State) : Result := cbTest 2 (.reg .d) s

/-- BIT 2,E (R319). -/
def execBit2E (s : State) : Result := cbTest 2 (.reg .e) s

/-- BIT 2,H (R319). -/
def execBit2H (s : State) : Result := cbTest 2 (.reg .h) s

/-- BIT 2,L (R319). -/
def execBit2L (s : State) : Result := cbTest 2 (.reg .l) s

/-- BIT 2,(HL) (R320). -/
def execBit2IndHl (s : State) : Result := cbTest 2 .indHl s

/-- BIT 2,A (R319). -/
def execBit2A (s : State) : Result := cbTest 2 (.reg .a) s

/-- BIT 3,B (R319). -/
def execBit3B (s : State) : Result := cbTest 3 (.reg .b) s

/-- BIT 3,C (R319). -/
def execBit3C (s : State) : Result := cbTest 3 (.reg .c) s

/-- BIT 3,D (R319). -/
def execBit3D (s : State) : Result := cbTest 3 (.reg .d) s

/-- BIT 3,E (R319). -/
def execBit3E (s : State) : Result := cbTest 3 (.reg .e) s

/-- BIT 3,H (R319). -/
def execBit3H (s : State) : Result := cbTest 3 (.reg .h) s

/-- BIT 3,L (R319). -/
def execBit3L (s : State) : Result := cbTest 3 (.reg .l) s

/-- BIT 3,(HL) (R320). -/
def execBit3IndHl (s : State) : Result := cbTest 3 .indHl s

/-- BIT 3,A (R319). -/
def execBit3A (s : State) : Result := cbTest 3 (.reg .a) s

/-- BIT 4,B (R319). -/
def execBit4B (s : State) : Result := cbTest 4 (.reg .b) s

/-- BIT 4,C (R319). -/
def execBit4C (s : State) : Result := cbTest 4 (.reg .c) s

/-- BIT 4,D (R319). -/
def execBit4D (s : State) : Result := cbTest 4 (.reg .d) s

/-- BIT 4,E (R319). -/
def execBit4E (s : State) : Result := cbTest 4 (.reg .e) s

/-- BIT 4,H (R319). -/
def execBit4H (s : State) : Result := cbTest 4 (.reg .h) s

/-- BIT 4,L (R319). -/
def execBit4L (s : State) : Result := cbTest 4 (.reg .l) s

/-- BIT 4,(HL) (R320). -/
def execBit4IndHl (s : State) : Result := cbTest 4 .indHl s

/-- BIT 4,A (R319). -/
def execBit4A (s : State) : Result := cbTest 4 (.reg .a) s

/-- BIT 5,B (R319). -/
def execBit5B (s : State) : Result := cbTest 5 (.reg .b) s

/-- BIT 5,C (R319). -/
def execBit5C (s : State) : Result := cbTest 5 (.reg .c) s

/-- BIT 5,D (R319). -/
def execBit5D (s : State) : Result := cbTest 5 (.reg .d) s

/-- BIT 5,E (R319). -/
def execBit5E (s : State) : Result := cbTest 5 (.reg .e) s

/-- BIT 5,H (R319). -/
def execBit5H (s : State) : Result := cbTest 5 (.reg .h) s

/-- BIT 5,L (R319). -/
def execBit5L (s : State) : Result := cbTest 5 (.reg .l) s

/-- BIT 5,(HL) (R320). -/
def execBit5IndHl (s : State) : Result := cbTest 5 .indHl s

/-- BIT 5,A (R319). -/
def execBit5A (s : State) : Result := cbTest 5 (.reg .a) s

/-- BIT 6,B (R319). -/
def execBit6B (s : State) : Result := cbTest 6 (.reg .b) s

/-- BIT 6,C (R319). -/
def execBit6C (s : State) : Result := cbTest 6 (.reg .c) s

/-- BIT 6,D (R319). -/
def execBit6D (s : State) : Result := cbTest 6 (.reg .d) s

/-- BIT 6,E (R319). -/
def execBit6E (s : State) : Result := cbTest 6 (.reg .e) s

/-- BIT 6,H (R319). -/
def execBit6H (s : State) : Result := cbTest 6 (.reg .h) s

/-- BIT 6,L (R319). -/
def execBit6L (s : State) : Result := cbTest 6 (.reg .l) s

/-- BIT 6,(HL) (R320). -/
def execBit6IndHl (s : State) : Result := cbTest 6 .indHl s

/-- BIT 6,A (R319). -/
def execBit6A (s : State) : Result := cbTest 6 (.reg .a) s

/-- BIT 7,B (R319). -/
def execBit7B (s : State) : Result := cbTest 7 (.reg .b) s

/-- BIT 7,C (R319). -/
def execBit7C (s : State) : Result := cbTest 7 (.reg .c) s

/-- BIT 7,D (R319). -/
def execBit7D (s : State) : Result := cbTest 7 (.reg .d) s

/-- BIT 7,E (R319). -/
def execBit7E (s : State) : Result := cbTest 7 (.reg .e) s

/-- BIT 7,H (R319). -/
def execBit7H (s : State) : Result := cbTest 7 (.reg .h) s

/-- BIT 7,L (R319). -/
def execBit7L (s : State) : Result := cbTest 7 (.reg .l) s

/-- BIT 7,(HL) (R320). -/
def execBit7IndHl (s : State) : Result := cbTest 7 .indHl s

/-- BIT 7,A (R319). -/
def execBit7A (s : State) : Result := cbTest 7 (.reg .a) s

/-- RES 0,B (R321). -/
def execRes0B (s : State) : Result := cbReset 0 (.reg .b) s

/-- RES 0,C (R321). -/
def execRes0C (s : State) : Result := cbReset 0 (.reg .c) s

/-- RES 0,D (R321). -/
def execRes0D (s : State) : Result := cbReset 0 (.reg .d) s

/-- RES 0,E (R321). -/
def execRes0E (s : State) : Result := cbReset 0 (.reg .e) s

/-- RES 0,H (R321). -/
def execRes0H (s : State) : Result := cbReset 0 (.reg .h) s

/-- RES 0,L (R321). -/
def execRes0L (s : State) : Result := cbReset 0 (.reg .l) s

/-- RES 0,(HL) (R322). -/
def execRes0IndHl (s : State) : Result := cbReset 0 .indHl s

/-- RES 0,A (R321). -/
def execRes0A (s : State) : Result := cbReset 0 (.reg .a) s

/-- RES 1,B (R321). -/
def execRes1B (s : State) : Result := cbReset 1 (.reg .b) s

/-- RES 1,C (R321). -/
def execRes1C (s : State) : Result := cbReset 1 (.reg .c) s

/-- RES 1,D (R321). -/
def execRes1D (s : State) : Result := cbReset 1 (.reg .d) s

/-- RES 1,E (R321). -/
def execRes1E (s : State) : Result := cbReset 1 (.reg .e) s

/-- RES 1,H (R321). -/
def execRes1H (s : State) : Result := cbReset 1 (.reg .h) s

/-- RES 1,L (R321). -/
def execRes1L (s : State) : Result := cbReset 1 (.reg .l) s

/-- RES 1,(HL) (R322). -/
def execRes1IndHl (s : State) : Result := cbReset 1 .indHl s

/-- RES 1,A (R321). -/
def execRes1A (s : State) : Result := cbReset 1 (.reg .a) s

/-- RES 2,B (R321). -/
def execRes2B (s : State) : Result := cbReset 2 (.reg .b) s

/-- RES 2,C (R321). -/
def execRes2C (s : State) : Result := cbReset 2 (.reg .c) s

/-- RES 2,D (R321). -/
def execRes2D (s : State) : Result := cbReset 2 (.reg .d) s

/-- RES 2,E (R321). -/
def execRes2E (s : State) : Result := cbReset 2 (.reg .e) s

/-- RES 2,H (R321). -/
def execRes2H (s : State) : Result := cbReset 2 (.reg .h) s

/-- RES 2,L (R321). -/
def execRes2L (s : State) : Result := cbReset 2 (.reg .l) s

/-- RES 2,(HL) (R322). -/
def execRes2IndHl (s : State) : Result := cbReset 2 .indHl s

/-- RES 2,A (R321). -/
def execRes2A (s : State) : Result := cbReset 2 (.reg .a) s

/-- RES 3,B (R321). -/
def execRes3B (s : State) : Result := cbReset 3 (.reg .b) s

/-- RES 3,C (R321). -/
def execRes3C (s : State) : Result := cbReset 3 (.reg .c) s

/-- RES 3,D (R321). -/
def execRes3D (s : State) : Result := cbReset 3 (.reg .d) s

/-- RES 3,E (R321). -/
def execRes3E (s : State) : Result := cbReset 3 (.reg .e) s

/-- RES 3,H (R321). -/
def execRes3H (s : State) : Result := cbReset 3 (.reg .h) s

/-- RES 3,L (R321). -/
def execRes3L (s : State) : Result := cbReset 3 (.reg .l) s

/-- RES 3,(HL) (R322). -/
def execRes3IndHl (s : State) : Result := cbReset 3 .indHl s

/-- RES 3,A (R321). -/
def execRes3A (s : State) : Result := cbReset 3 (.reg .a) s

/-- RES 4,B (R321). -/
def execRes4B (s : State) : Result := cbReset 4 (.reg .b) s

/-- RES 4,C (R321). -/
def execRes4C (s : State) : Result := cbReset 4 (.reg .c) s

/-- RES 4,D (R321). -/
def execRes4D (s : State) : Result := cbReset 4 (.reg .d) s

/-- RES 4,E (R321). -/
def execRes4E (s : State) : Result := cbReset 4 (.reg .e) s

/-- RES 4,H (R321). -/
def execRes4H (s : State) : Result := cbReset 4 (.reg .h) s

/-- RES 4,L (R321). -/
def execRes4L (s : State) : Result := cbReset 4 (.reg .l) s

/-- RES 4,(HL) (R322). -/
def execRes4IndHl (s : State) : Result := cbReset 4 .indHl s

/-- RES 4,A (R321). -/
def execRes4A (s : State) : Result := cbReset 4 (.reg .a) s

/-- RES 5,B (R321). -/
def execRes5B (s : State) : Result := cbReset 5 (.reg .b) s

/-- RES 5,C (R321). -/
def execRes5C (s : State) : Result := cbReset 5 (.reg .c) s

/-- RES 5,D (R321). -/
def execRes5D (s : State) : Result := cbReset 5 (.reg .d) s

/-- RES 5,E (R321). -/
def execRes5E (s : State) : Result := cbReset 5 (.reg .e) s

/-- RES 5,H (R321). -/
def execRes5H (s : State) : Result := cbReset 5 (.reg .h) s

/-- RES 5,L (R321). -/
def execRes5L (s : State) : Result := cbReset 5 (.reg .l) s

/-- RES 5,(HL) (R322). -/
def execRes5IndHl (s : State) : Result := cbReset 5 .indHl s

/-- RES 5,A (R321). -/
def execRes5A (s : State) : Result := cbReset 5 (.reg .a) s

/-- RES 6,B (R321). -/
def execRes6B (s : State) : Result := cbReset 6 (.reg .b) s

/-- RES 6,C (R321). -/
def execRes6C (s : State) : Result := cbReset 6 (.reg .c) s

/-- RES 6,D (R321). -/
def execRes6D (s : State) : Result := cbReset 6 (.reg .d) s

/-- RES 6,E (R321). -/
def execRes6E (s : State) : Result := cbReset 6 (.reg .e) s

/-- RES 6,H (R321). -/
def execRes6H (s : State) : Result := cbReset 6 (.reg .h) s

/-- RES 6,L (R321). -/
def execRes6L (s : State) : Result := cbReset 6 (.reg .l) s

/-- RES 6,(HL) (R322). -/
def execRes6IndHl (s : State) : Result := cbReset 6 .indHl s

/-- RES 6,A (R321). -/
def execRes6A (s : State) : Result := cbReset 6 (.reg .a) s

/-- RES 7,B (R321). -/
def execRes7B (s : State) : Result := cbReset 7 (.reg .b) s

/-- RES 7,C (R321). -/
def execRes7C (s : State) : Result := cbReset 7 (.reg .c) s

/-- RES 7,D (R321). -/
def execRes7D (s : State) : Result := cbReset 7 (.reg .d) s

/-- RES 7,E (R321). -/
def execRes7E (s : State) : Result := cbReset 7 (.reg .e) s

/-- RES 7,H (R321). -/
def execRes7H (s : State) : Result := cbReset 7 (.reg .h) s

/-- RES 7,L (R321). -/
def execRes7L (s : State) : Result := cbReset 7 (.reg .l) s

/-- RES 7,(HL) (R322). -/
def execRes7IndHl (s : State) : Result := cbReset 7 .indHl s

/-- RES 7,A (R321). -/
def execRes7A (s : State) : Result := cbReset 7 (.reg .a) s

/-- SET 0,B (R323). -/
def execSet0B (s : State) : Result := cbSet 0 (.reg .b) s

/-- SET 0,C (R323). -/
def execSet0C (s : State) : Result := cbSet 0 (.reg .c) s

/-- SET 0,D (R323). -/
def execSet0D (s : State) : Result := cbSet 0 (.reg .d) s

/-- SET 0,E (R323). -/
def execSet0E (s : State) : Result := cbSet 0 (.reg .e) s

/-- SET 0,H (R323). -/
def execSet0H (s : State) : Result := cbSet 0 (.reg .h) s

/-- SET 0,L (R323). -/
def execSet0L (s : State) : Result := cbSet 0 (.reg .l) s

/-- SET 0,(HL) (R324). -/
def execSet0IndHl (s : State) : Result := cbSet 0 .indHl s

/-- SET 0,A (R323). -/
def execSet0A (s : State) : Result := cbSet 0 (.reg .a) s

/-- SET 1,B (R323). -/
def execSet1B (s : State) : Result := cbSet 1 (.reg .b) s

/-- SET 1,C (R323). -/
def execSet1C (s : State) : Result := cbSet 1 (.reg .c) s

/-- SET 1,D (R323). -/
def execSet1D (s : State) : Result := cbSet 1 (.reg .d) s

/-- SET 1,E (R323). -/
def execSet1E (s : State) : Result := cbSet 1 (.reg .e) s

/-- SET 1,H (R323). -/
def execSet1H (s : State) : Result := cbSet 1 (.reg .h) s

/-- SET 1,L (R323). -/
def execSet1L (s : State) : Result := cbSet 1 (.reg .l) s

/-- SET 1,(HL) (R324). -/
def execSet1IndHl (s : State) : Result := cbSet 1 .indHl s

/-- SET 1,A (R323). -/
def execSet1A (s : State) : Result := cbSet 1 (.reg .a) s

/-- SET 2,B (R323). -/
def execSet2B (s : State) : Result := cbSet 2 (.reg .b) s

/-- SET 2,C (R323). -/
def execSet2C (s : State) : Result := cbSet 2 (.reg .c) s

/-- SET 2,D (R323). -/
def execSet2D (s : State) : Result := cbSet 2 (.reg .d) s

/-- SET 2,E (R323). -/
def execSet2E (s : State) : Result := cbSet 2 (.reg .e) s

/-- SET 2,H (R323). -/
def execSet2H (s : State) : Result := cbSet 2 (.reg .h) s

/-- SET 2,L (R323). -/
def execSet2L (s : State) : Result := cbSet 2 (.reg .l) s

/-- SET 2,(HL) (R324). -/
def execSet2IndHl (s : State) : Result := cbSet 2 .indHl s

/-- SET 2,A (R323). -/
def execSet2A (s : State) : Result := cbSet 2 (.reg .a) s

/-- SET 3,B (R323). -/
def execSet3B (s : State) : Result := cbSet 3 (.reg .b) s

/-- SET 3,C (R323). -/
def execSet3C (s : State) : Result := cbSet 3 (.reg .c) s

/-- SET 3,D (R323). -/
def execSet3D (s : State) : Result := cbSet 3 (.reg .d) s

/-- SET 3,E (R323). -/
def execSet3E (s : State) : Result := cbSet 3 (.reg .e) s

/-- SET 3,H (R323). -/
def execSet3H (s : State) : Result := cbSet 3 (.reg .h) s

/-- SET 3,L (R323). -/
def execSet3L (s : State) : Result := cbSet 3 (.reg .l) s

/-- SET 3,(HL) (R324). -/
def execSet3IndHl (s : State) : Result := cbSet 3 .indHl s

/-- SET 3,A (R323). -/
def execSet3A (s : State) : Result := cbSet 3 (.reg .a) s

/-- SET 4,B (R323). -/
def execSet4B (s : State) : Result := cbSet 4 (.reg .b) s

/-- SET 4,C (R323). -/
def execSet4C (s : State) : Result := cbSet 4 (.reg .c) s

/-- SET 4,D (R323). -/
def execSet4D (s : State) : Result := cbSet 4 (.reg .d) s

/-- SET 4,E (R323). -/
def execSet4E (s : State) : Result := cbSet 4 (.reg .e) s

/-- SET 4,H (R323). -/
def execSet4H (s : State) : Result := cbSet 4 (.reg .h) s

/-- SET 4,L (R323). -/
def execSet4L (s : State) : Result := cbSet 4 (.reg .l) s

/-- SET 4,(HL) (R324). -/
def execSet4IndHl (s : State) : Result := cbSet 4 .indHl s

/-- SET 4,A (R323). -/
def execSet4A (s : State) : Result := cbSet 4 (.reg .a) s

/-- SET 5,B (R323). -/
def execSet5B (s : State) : Result := cbSet 5 (.reg .b) s

/-- SET 5,C (R323). -/
def execSet5C (s : State) : Result := cbSet 5 (.reg .c) s

/-- SET 5,D (R323). -/
def execSet5D (s : State) : Result := cbSet 5 (.reg .d) s

/-- SET 5,E (R323). -/
def execSet5E (s : State) : Result := cbSet 5 (.reg .e) s

/-- SET 5,H (R323). -/
def execSet5H (s : State) : Result := cbSet 5 (.reg .h) s

/-- SET 5,L (R323). -/
def execSet5L (s : State) : Result := cbSet 5 (.reg .l) s

/-- SET 5,(HL) (R324). -/
def execSet5IndHl (s : State) : Result := cbSet 5 .indHl s

/-- SET 5,A (R323). -/
def execSet5A (s : State) : Result := cbSet 5 (.reg .a) s

/-- SET 6,B (R323). -/
def execSet6B (s : State) : Result := cbSet 6 (.reg .b) s

/-- SET 6,C (R323). -/
def execSet6C (s : State) : Result := cbSet 6 (.reg .c) s

/-- SET 6,D (R323). -/
def execSet6D (s : State) : Result := cbSet 6 (.reg .d) s

/-- SET 6,E (R323). -/
def execSet6E (s : State) : Result := cbSet 6 (.reg .e) s

/-- SET 6,H (R323). -/
def execSet6H (s : State) : Result := cbSet 6 (.reg .h) s

/-- SET 6,L (R323). -/
def execSet6L (s : State) : Result := cbSet 6 (.reg .l) s

/-- SET 6,(HL) (R324). -/
def execSet6IndHl (s : State) : Result := cbSet 6 .indHl s

/-- SET 6,A (R323). -/
def execSet6A (s : State) : Result := cbSet 6 (.reg .a) s

/-- SET 7,B (R323). -/
def execSet7B (s : State) : Result := cbSet 7 (.reg .b) s

/-- SET 7,C (R323). -/
def execSet7C (s : State) : Result := cbSet 7 (.reg .c) s

/-- SET 7,D (R323). -/
def execSet7D (s : State) : Result := cbSet 7 (.reg .d) s

/-- SET 7,E (R323). -/
def execSet7E (s : State) : Result := cbSet 7 (.reg .e) s

/-- SET 7,H (R323). -/
def execSet7H (s : State) : Result := cbSet 7 (.reg .h) s

/-- SET 7,L (R323). -/
def execSet7L (s : State) : Result := cbSet 7 (.reg .l) s

/-- SET 7,(HL) (R324). -/
def execSet7IndHl (s : State) : Result := cbSet 7 .indHl s

/-- SET 7,A (R323). -/
def execSet7A (s : State) : Result := cbSet 7 (.reg .a) s

end Sys2Proof.Machine
end

