-- ==== Sys2Proof/Machine/Control.lean ====
section
/-! DEFINITION. Jumps, calls, returns and the stack (46_control.md R343 to R355). A meaning starts
with PC past the instruction's bytes, so the pushed PC is the next instruction's address. -/

namespace Sys2Proof.Machine

/-- `PC <- nn` (R343). -/
def jump (nn : Word) (s : State) : Result := finish 16 (s.setPc nn)

/-- JP cc,nn (R344). -/
def jumpIf (cc : Cond) (nn : Word) (s : State) : Result :=
  if s.cond cc then finish 16 (s.setPc nn) else finish 12 s

/-- `PC <- HL` (R345). -/
def jumpHl (s : State) : Result := finish 4 (s.setPc s.hl)

/-- `PC <- PC + sext_16(e)` (R346, R38). -/
def jumpRel (e : Byte) (s : State) : Result := finish 12 (s.setPc (s.cpu.pc + sext e))

/-- JR cc,e (R347). -/
def jumpRelIf (cc : Cond) (e : Byte) (s : State) : Result :=
  if s.cond cc then finish 12 (s.setPc (s.cpu.pc + sext e)) else finish 8 s

/-- `Push16(PC); PC <- nn` (R348). -/
def call (nn : Word) (s : State) : Result := finish 24 ((s.push16 s.cpu.pc).setPc nn)

/-- CALL cc,nn (R349). -/
def callIf (cc : Cond) (nn : Word) (s : State) : Result :=
  if s.cond cc then finish 24 ((s.push16 s.cpu.pc).setPc nn) else finish 12 s

/-- `PC <- Pop16()` (R350). -/
def ret (s : State) : Result :=
  let (v, t) := s.pop16
  finish 16 (t.setPc v)

/-- RET cc (R351): not taken, no memory is read. -/
def retIf (cc : Cond) (s : State) : Result :=
  if s.cond cc then
    let (v, t) := s.pop16
    finish 20 (t.setPc v)
  else finish 8 s

/-- RETI (R352). -/
def retFromInterrupt (s : State) : Result := finish 16 s.returnFromInterrupt

/-- RST t (R353). -/
def restart (t : Word) (s : State) : Result := finish 16 ((s.push16 s.cpu.pc).setPc t)

/-- PUSH rr (R354). -/
def pushPair (p : StackPair) (s : State) : Result := finish 16 (s.push16 (s.stackPair p))

/-- POP rr (R355). -/
def popPair (p : StackPair) (s : State) : Result :=
  let (v, t) := s.pop16
  finish 12 (t.setStackPair p v)

/-- JR e (R346). -/
def execJrE (e : Byte) (s : State) : Result := jumpRel e s

/-- JR NZ,e (R347). -/
def execJrNzE (e : Byte) (s : State) : Result := jumpRelIf .nz e s

/-- JR Z,e (R347). -/
def execJrZE (e : Byte) (s : State) : Result := jumpRelIf .z e s

/-- JR NC,e (R347). -/
def execJrNcE (e : Byte) (s : State) : Result := jumpRelIf .nc e s

/-- JR C,e (R347). -/
def execJrCE (e : Byte) (s : State) : Result := jumpRelIf .c e s

/-- RET NZ (R351). -/
def execRetNz (s : State) : Result := retIf .nz s

/-- POP BC (R355). -/
def execPopBc (s : State) : Result := popPair .bc s

/-- JP NZ,nn (R344). -/
def execJpNzNn (nn : Word) (s : State) : Result := jumpIf .nz nn s

/-- JP nn (R343). -/
def execJpNn (nn : Word) (s : State) : Result := jump nn s

/-- CALL NZ,nn (R349). -/
def execCallNzNn (nn : Word) (s : State) : Result := callIf .nz nn s

/-- PUSH BC (R354). -/
def execPushBc (s : State) : Result := pushPair .bc s

/-- RST 0x00 (R353). -/
def execRst00 (s : State) : Result := restart 0x00 s

/-- RET Z (R351). -/
def execRetZ (s : State) : Result := retIf .z s

/-- RET (R350). -/
def execRet (s : State) : Result := ret s

/-- JP Z,nn (R344). -/
def execJpZNn (nn : Word) (s : State) : Result := jumpIf .z nn s

/-- CALL Z,nn (R349). -/
def execCallZNn (nn : Word) (s : State) : Result := callIf .z nn s

/-- CALL nn (R348). -/
def execCallNn (nn : Word) (s : State) : Result := call nn s

/-- RST 0x08 (R353). -/
def execRst08 (s : State) : Result := restart 0x08 s

/-- RET NC (R351). -/
def execRetNc (s : State) : Result := retIf .nc s

/-- POP DE (R355). -/
def execPopDe (s : State) : Result := popPair .de s

/-- JP NC,nn (R344). -/
def execJpNcNn (nn : Word) (s : State) : Result := jumpIf .nc nn s

/-- CALL NC,nn (R349). -/
def execCallNcNn (nn : Word) (s : State) : Result := callIf .nc nn s

/-- PUSH DE (R354). -/
def execPushDe (s : State) : Result := pushPair .de s

/-- RST 0x10 (R353). -/
def execRst10 (s : State) : Result := restart 0x10 s

/-- RET C (R351). -/
def execRetC (s : State) : Result := retIf .c s

/-- RETI (R352). -/
def execReti (s : State) : Result := retFromInterrupt s

/-- JP C,nn (R344). -/
def execJpCNn (nn : Word) (s : State) : Result := jumpIf .c nn s

/-- CALL C,nn (R349). -/
def execCallCNn (nn : Word) (s : State) : Result := callIf .c nn s

/-- RST 0x18 (R353). -/
def execRst18 (s : State) : Result := restart 0x18 s

/-- POP HL (R355). -/
def execPopHl (s : State) : Result := popPair .hl s

/-- PUSH HL (R354). -/
def execPushHl (s : State) : Result := pushPair .hl s

/-- RST 0x20 (R353). -/
def execRst20 (s : State) : Result := restart 0x20 s

/-- JP HL (R345). -/
def execJpHl (s : State) : Result := jumpHl s

/-- RST 0x28 (R353). -/
def execRst28 (s : State) : Result := restart 0x28 s

/-- POP AF (R355). -/
def execPopAf (s : State) : Result := popPair .af s

/-- PUSH AF (R354). -/
def execPushAf (s : State) : Result := pushPair .af s

/-- RST 0x30 (R353). -/
def execRst30 (s : State) : Result := restart 0x30 s

/-- RST 0x38 (R353). -/
def execRst38 (s : State) : Result := restart 0x38 s

end Sys2Proof.Machine
end

