-- ==== Sys2Proof/Machine/IncDec.lean ====
section
/-! DEFINITION. 8-bit INC and DEC (42_alu16_incdec.md R279 to R282): C is never touched. -/

namespace Sys2Proof.Machine

/-- INC r (R279). -/
def incReg (r : Reg8) (s : State) : Result :=
  let o := inc8 (s.reg r) (flagC s.cpu.f)
  finish 4 ((s.setReg r o.res).setF o.byte)

/-- DEC r (R280). -/
def decReg (r : Reg8) (s : State) : Result :=
  let o := dec8 (s.reg r) (flagC s.cpu.f)
  finish 4 ((s.setReg r o.res).setF o.byte)

/-- INC (HL) (R281): one read, one write. -/
def incMem (s : State) : Result :=
  let (v, t) := s.get8 s.hl
  let o := inc8 v (flagC s.cpu.f)
  finish 12 ((t.set8 s.hl o.res).setF o.byte)

/-- DEC (HL) (R282): one read, one write. -/
def decMem (s : State) : Result :=
  let (v, t) := s.get8 s.hl
  let o := dec8 v (flagC s.cpu.f)
  finish 12 ((t.set8 s.hl o.res).setF o.byte)

/-- INC B (R279). -/
def execIncB (s : State) : Result := incReg .b s

/-- DEC B (R280). -/
def execDecB (s : State) : Result := decReg .b s

/-- INC C (R279). -/
def execIncC (s : State) : Result := incReg .c s

/-- DEC C (R280). -/
def execDecC (s : State) : Result := decReg .c s

/-- INC D (R279). -/
def execIncD (s : State) : Result := incReg .d s

/-- DEC D (R280). -/
def execDecD (s : State) : Result := decReg .d s

/-- INC E (R279). -/
def execIncE (s : State) : Result := incReg .e s

/-- DEC E (R280). -/
def execDecE (s : State) : Result := decReg .e s

/-- INC H (R279). -/
def execIncH (s : State) : Result := incReg .h s

/-- DEC H (R280). -/
def execDecH (s : State) : Result := decReg .h s

/-- INC L (R279). -/
def execIncL (s : State) : Result := incReg .l s

/-- DEC L (R280). -/
def execDecL (s : State) : Result := decReg .l s

/-- INC (HL) (R281). -/
def execIncIndHl (s : State) : Result := incMem s

/-- DEC (HL) (R282). -/
def execDecIndHl (s : State) : Result := decMem s

/-- INC A (R279). -/
def execIncA (s : State) : Result := incReg .a s

/-- DEC A (R280). -/
def execDecA (s : State) : Result := decReg .a s

end Sys2Proof.Machine
end

