-- ==== Sys2Proof/Machine/Loads16.lean ====
section
/-! DEFINITION. The 16-bit loads (40_loads.md R220 to R224), with `SPAddE` (R200). -/

namespace Sys2Proof.Machine

/-- The flags of `SPAddE(e)` (R200): Z and N cleared, H and C from the unsigned bytes. -/
def spAddFlags (sp : Word) (e : Byte) : Byte := flagByte false false (spAddH sp e) (spAddC sp e)

/-- `rr[p] <- nn` (R220). -/
def ldPairImm (p : Pair) (nn : Word) (s : State) : Result := finish 12 (s.setPair p nn)

/-- `MemWrite(nn, 2, SP)` (R221). -/
def storeSp (nn : Word) (s : State) : Result := finish 20 (s.set16 nn s.cpu.sp)

/-- `SP <- HL` (R222). -/
def ldSpFromHl (s : State) : Result := finish 8 (s.setSp s.hl)

/-- `HL <- SPAddE(e)` (R223). -/
def ldHlSpPlus (e : Byte) (s : State) : Result :=
  finish 12 ((s.setHl (s.cpu.sp + sext e)).setF (spAddFlags s.cpu.sp e))

/-- `SP <- SPAddE(e)` (R224). -/
def addSpOffset (e : Byte) (s : State) : Result :=
  finish 16 ((s.setSp (s.cpu.sp + sext e)).setF (spAddFlags s.cpu.sp e))

/-- LD BC,nn (R220). -/
def execLdBcNn (nn : Word) (s : State) : Result := ldPairImm .bc nn s

/-- LD (nn),SP (R221). -/
def execLdIndNnSp (nn : Word) (s : State) : Result := storeSp nn s

/-- LD DE,nn (R220). -/
def execLdDeNn (nn : Word) (s : State) : Result := ldPairImm .de nn s

/-- LD HL,nn (R220). -/
def execLdHlNn (nn : Word) (s : State) : Result := ldPairImm .hl nn s

/-- LD SP,nn (R220). -/
def execLdSpNn (nn : Word) (s : State) : Result := ldPairImm .sp nn s

/-- ADD SP,e (R224). -/
def execAddSpE (e : Byte) (s : State) : Result := addSpOffset e s

/-- LD HL,SP+e (R223). -/
def execLdHlSpE (e : Byte) (s : State) : Result := ldHlSpPlus e s

/-- LD SP,HL (R222). -/
def execLdSpHl (s : State) : Result := ldSpFromHl s

end Sys2Proof.Machine
end

