-- ==== Sys2Proof/Machine/Loads8.lean ====
section
/-! DEFINITION. The 8-bit loads (40_loads.md R201 to R219): the shared operations, then one meaning
for each instruction. A meaning starts after the instruction's bytes are fetched (R37). -/

namespace Sys2Proof.Machine

/-- `r[d] <- r[r]` (R201). -/
def ldRegReg (dst r : Reg8) (s : State) : Result := finish 4 (s.setReg dst (s.reg r))

/-- `r[d] <- n` (R202). -/
def ldRegImm (dst : Reg8) (n : Byte) (s : State) : Result := finish 8 (s.setReg dst n)

/-- `r[d] <- MemRead(HL, 1)` (R203): the address is taken before the write. -/
def ldRegMem (dst : Reg8) (s : State) : Result :=
  let (v, t) := s.get8 s.hl
  finish 8 (t.setReg dst v)

/-- `MemWrite(HL, 1, r[r])` (R204). -/
def ldMemReg (r : Reg8) (s : State) : Result := finish 8 (s.set8 s.hl (s.reg r))

/-- `MemWrite(HL, 1, n)` (R205). -/
def ldMemImm (n : Byte) (s : State) : Result := finish 12 (s.set8 s.hl n)

/-- `A <- MemRead(addr, 1)` in `c` dots (R206, R207, R210, R212, R214). -/
def loadA (c : Nat) (addr : Word) (s : State) : Result :=
  let (v, t) := s.get8 addr
  finish c (t.setReg .a v)

/-- `MemWrite(addr, 1, A)` in `c` dots (R208, R209, R211, R213, R215). -/
def storeA (c : Nat) (addr : Word) (s : State) : Result := finish c (s.set8 addr s.cpu.a)

/-- `A <- MemRead(HL, 1)`, then HL moves by `by16` (R216, R217). -/
def loadAStep (by16 : Word) (s : State) : Result :=
  let (v, t) := s.get8 s.hl
  finish 8 ((t.setReg .a v).setHl (s.hl + by16))

/-- `MemWrite(HL, 1, A)`, then HL moves by `by16` (R218, R219). -/
def storeAStep (by16 : Word) (s : State) : Result :=
  finish 8 ((s.set8 s.hl s.cpu.a).setHl (s.hl + by16))

/-- LD (BC),A (R208). -/
def execLdIndBcA (s : State) : Result := storeA 8 s.bc s

/-- LD B,n (R202). -/
def execLdBN (n : Byte) (s : State) : Result := ldRegImm .b n s

/-- LD A,(BC) (R206). -/
def execLdAIndBc (s : State) : Result := loadA 8 s.bc s

/-- LD C,n (R202). -/
def execLdCN (n : Byte) (s : State) : Result := ldRegImm .c n s

/-- LD (DE),A (R209). -/
def execLdIndDeA (s : State) : Result := storeA 8 s.de s

/-- LD D,n (R202). -/
def execLdDN (n : Byte) (s : State) : Result := ldRegImm .d n s

/-- LD A,(DE) (R207). -/
def execLdAIndDe (s : State) : Result := loadA 8 s.de s

/-- LD E,n (R202). -/
def execLdEN (n : Byte) (s : State) : Result := ldRegImm .e n s

/-- LD (HL+),A (R218). -/
def execLdIndHlIncA (s : State) : Result := storeAStep 1 s

/-- LD H,n (R202). -/
def execLdHN (n : Byte) (s : State) : Result := ldRegImm .h n s

/-- LD A,(HL+) (R216). -/
def execLdAIndHlInc (s : State) : Result := loadAStep 1 s

/-- LD L,n (R202). -/
def execLdLN (n : Byte) (s : State) : Result := ldRegImm .l n s

/-- LD (HL-),A (R219). -/
def execLdIndHlDecA (s : State) : Result := storeAStep (-1) s

/-- LD (HL),n (R205). -/
def execLdIndHlN (n : Byte) (s : State) : Result := ldMemImm n s

/-- LD A,(HL-) (R217). -/
def execLdAIndHlDec (s : State) : Result := loadAStep (-1) s

/-- LD A,n (R202). -/
def execLdAN (n : Byte) (s : State) : Result := ldRegImm .a n s

/-- LD B,B (R201). -/
def execLdBB (s : State) : Result := ldRegReg .b .b s

/-- LD B,C (R201). -/
def execLdBC (s : State) : Result := ldRegReg .b .c s

/-- LD B,D (R201). -/
def execLdBD (s : State) : Result := ldRegReg .b .d s

/-- LD B,E (R201). -/
def execLdBE (s : State) : Result := ldRegReg .b .e s

/-- LD B,H (R201). -/
def execLdBH (s : State) : Result := ldRegReg .b .h s

/-- LD B,L (R201). -/
def execLdBL (s : State) : Result := ldRegReg .b .l s

/-- LD B,(HL) (R203). -/
def execLdBIndHl (s : State) : Result := ldRegMem .b s

/-- LD B,A (R201). -/
def execLdBA (s : State) : Result := ldRegReg .b .a s

/-- LD C,B (R201). -/
def execLdCB (s : State) : Result := ldRegReg .c .b s

/-- LD C,C (R201). -/
def execLdCC (s : State) : Result := ldRegReg .c .c s

/-- LD C,D (R201). -/
def execLdCD (s : State) : Result := ldRegReg .c .d s

/-- LD C,E (R201). -/
def execLdCE (s : State) : Result := ldRegReg .c .e s

/-- LD C,H (R201). -/
def execLdCH (s : State) : Result := ldRegReg .c .h s

/-- LD C,L (R201). -/
def execLdCL (s : State) : Result := ldRegReg .c .l s

/-- LD C,(HL) (R203). -/
def execLdCIndHl (s : State) : Result := ldRegMem .c s

/-- LD C,A (R201). -/
def execLdCA (s : State) : Result := ldRegReg .c .a s

/-- LD D,B (R201). -/
def execLdDB (s : State) : Result := ldRegReg .d .b s

/-- LD D,C (R201). -/
def execLdDC (s : State) : Result := ldRegReg .d .c s

/-- LD D,D (R201). -/
def execLdDD (s : State) : Result := ldRegReg .d .d s

/-- LD D,E (R201). -/
def execLdDE (s : State) : Result := ldRegReg .d .e s

/-- LD D,H (R201). -/
def execLdDH (s : State) : Result := ldRegReg .d .h s

/-- LD D,L (R201). -/
def execLdDL (s : State) : Result := ldRegReg .d .l s

/-- LD D,(HL) (R203). -/
def execLdDIndHl (s : State) : Result := ldRegMem .d s

/-- LD D,A (R201). -/
def execLdDA (s : State) : Result := ldRegReg .d .a s

/-- LD E,B (R201). -/
def execLdEB (s : State) : Result := ldRegReg .e .b s

/-- LD E,C (R201). -/
def execLdEC (s : State) : Result := ldRegReg .e .c s

/-- LD E,D (R201). -/
def execLdED (s : State) : Result := ldRegReg .e .d s

/-- LD E,E (R201). -/
def execLdEE (s : State) : Result := ldRegReg .e .e s

/-- LD E,H (R201). -/
def execLdEH (s : State) : Result := ldRegReg .e .h s

/-- LD E,L (R201). -/
def execLdEL (s : State) : Result := ldRegReg .e .l s

/-- LD E,(HL) (R203). -/
def execLdEIndHl (s : State) : Result := ldRegMem .e s

/-- LD E,A (R201). -/
def execLdEA (s : State) : Result := ldRegReg .e .a s

/-- LD H,B (R201). -/
def execLdHB (s : State) : Result := ldRegReg .h .b s

/-- LD H,C (R201). -/
def execLdHC (s : State) : Result := ldRegReg .h .c s

/-- LD H,D (R201). -/
def execLdHD (s : State) : Result := ldRegReg .h .d s

/-- LD H,E (R201). -/
def execLdHE (s : State) : Result := ldRegReg .h .e s

/-- LD H,H (R201). -/
def execLdHH (s : State) : Result := ldRegReg .h .h s

/-- LD H,L (R201). -/
def execLdHL (s : State) : Result := ldRegReg .h .l s

/-- LD H,(HL) (R203). -/
def execLdHIndHl (s : State) : Result := ldRegMem .h s

/-- LD H,A (R201). -/
def execLdHA (s : State) : Result := ldRegReg .h .a s

/-- LD L,B (R201). -/
def execLdLB (s : State) : Result := ldRegReg .l .b s

/-- LD L,C (R201). -/
def execLdLC (s : State) : Result := ldRegReg .l .c s

/-- LD L,D (R201). -/
def execLdLD (s : State) : Result := ldRegReg .l .d s

/-- LD L,E (R201). -/
def execLdLE (s : State) : Result := ldRegReg .l .e s

/-- LD L,H (R201). -/
def execLdLH (s : State) : Result := ldRegReg .l .h s

/-- LD L,L (R201). -/
def execLdLL (s : State) : Result := ldRegReg .l .l s

/-- LD L,(HL) (R203). -/
def execLdLIndHl (s : State) : Result := ldRegMem .l s

/-- LD L,A (R201). -/
def execLdLA (s : State) : Result := ldRegReg .l .a s

/-- LD (HL),B (R204). -/
def execLdIndHlB (s : State) : Result := ldMemReg .b s

/-- LD (HL),C (R204). -/
def execLdIndHlC (s : State) : Result := ldMemReg .c s

/-- LD (HL),D (R204). -/
def execLdIndHlD (s : State) : Result := ldMemReg .d s

/-- LD (HL),E (R204). -/
def execLdIndHlE (s : State) : Result := ldMemReg .e s

/-- LD (HL),H (R204). -/
def execLdIndHlH (s : State) : Result := ldMemReg .h s

/-- LD (HL),L (R204). -/
def execLdIndHlL (s : State) : Result := ldMemReg .l s

/-- LD (HL),A (R204). -/
def execLdIndHlA (s : State) : Result := ldMemReg .a s

/-- LD A,B (R201). -/
def execLdAB (s : State) : Result := ldRegReg .a .b s

/-- LD A,C (R201). -/
def execLdAC (s : State) : Result := ldRegReg .a .c s

/-- LD A,D (R201). -/
def execLdAD (s : State) : Result := ldRegReg .a .d s

/-- LD A,E (R201). -/
def execLdAE (s : State) : Result := ldRegReg .a .e s

/-- LD A,H (R201). -/
def execLdAH (s : State) : Result := ldRegReg .a .h s

/-- LD A,L (R201). -/
def execLdAL (s : State) : Result := ldRegReg .a .l s

/-- LD A,(HL) (R203). -/
def execLdAIndHl (s : State) : Result := ldRegMem .a s

/-- LD A,A (R201). -/
def execLdAA (s : State) : Result := ldRegReg .a .a s

/-- LDH (n),A (R215). -/
def execLdhIndNA (n : Byte) (s : State) : Result := storeA 12 (highPage n) s

/-- LD (C),A (R213). -/
def execLdIndCA (s : State) : Result := storeA 8 (highPage s.cpu.c) s

/-- LD (nn),A (R211). -/
def execLdIndNnA (nn : Word) (s : State) : Result := storeA 16 nn s

/-- LDH A,(n) (R214). -/
def execLdhAIndN (n : Byte) (s : State) : Result := loadA 12 (highPage n) s

/-- LD A,(C) (R212). -/
def execLdAIndC (s : State) : Result := loadA 8 (highPage s.cpu.c) s

/-- LD A,(nn) (R210). -/
def execLdAIndNn (nn : Word) (s : State) : Result := loadA 16 nn s

end Sys2Proof.Machine
end

