-- ==== Sys2Proof/Machine/MiscAlu.lean ====
section
/-! DEFINITION. DAA, CPL, SCF, CCF, NOP (43_misc_alu.md) and the rotates of A (45_rotate_a.md). -/

namespace Sys2Proof.Machine

/-- DAA (R291). -/
def daaA (s : State) : Result :=
  let o := daa8 s.cpu.a s.cpu.f
  finish 4 ((s.setReg .a o.res).setF o.byte)

/-- CPL (R292): Z and C kept. -/
def cplA (s : State) : Result :=
  finish 4 ((s.setReg .a (s.cpu.a ^^^ 0xFF)).setF
    (flagByte (flagZ s.cpu.f) true true (flagC s.cpu.f)))

/-- SCF (R293). -/
def setCarry (s : State) : Result := finish 4 (s.setF (flagByte (flagZ s.cpu.f) false false true))

/-- CCF (R294). -/
def flipCarry (s : State) : Result :=
  finish 4 (s.setF (flagByte (flagZ s.cpu.f) false false (!flagC s.cpu.f)))

/-- Nothing beyond the fetch (R295, R378), in `c` dots. -/
def noOperation (c : Nat) (s : State) : Result := finish c s

/-- A rotate of A (R331 to R334): as the CB rotate, with Z forced to 0. -/
def rotateA (k : RotOp) (s : State) : Result :=
  let o := rot8 k s.cpu.a (flagC s.cpu.f)
  finish 4 ((s.setReg .a o.res).setF (flagByte false false false o.c))

/-- NOP (R295). -/
def execNop (s : State) : Result := noOperation 4 s

/-- RLCA (R331). -/
def execRlca (s : State) : Result := rotateA .rlc s

/-- RRCA (R332). -/
def execRrca (s : State) : Result := rotateA .rrc s

/-- RLA (R333). -/
def execRla (s : State) : Result := rotateA .rl s

/-- RRA (R334). -/
def execRra (s : State) : Result := rotateA .rr s

/-- DAA (R291). -/
def execDaa (s : State) : Result := daaA s

/-- CPL (R292). -/
def execCpl (s : State) : Result := cplA s

/-- SCF (R293). -/
def execScf (s : State) : Result := setCarry s

/-- CCF (R294). -/
def execCcf (s : State) : Result := flipCarry s

end Sys2Proof.Machine
end

