-- ==== Sys2Proof/Machine/System.lean ====
section
/-! DEFINITION. EI, DI, HALT, STOP and the bytes with no instruction (47_system.md R374 to R378). -/

namespace Sys2Proof.Machine

/-- EI (R374): the count-down that ends in IME = 1 after the next instruction. -/
def enableInterrupts (s : State) : Result := finish 4 { s with cpu.imeSched := 2 }

/-- DI (R375): at once, and a pending EI is cancelled. -/
def disableInterrupts (s : State) : Result :=
  finish 4 { s with cpu.ime := false, cpu.imeSched := 0 }

/-- HALT (R376). With `HALT_BUG`, IME = 0 and an enabled request pending, the CPU does not halt and
the next opcode fetch does not advance PC (assumption 11). -/
def suspend (s : State) : Result :=
  if s.params.haltBug && !s.cpu.ime && s.pend != 0 then finish 4 { s with cpu.holdPc := true }
  else finish 4 { s with cpu.halted := true }

/-- STOP (R377): its second byte is fetched and ignored; with `STOP_MODE = refuse` it refuses. -/
def stop (s : State) : Result :=
  match s.params.stopMode with
  | .nop => finish 4 s
  | .refuse => .refused .stopRefused

/-- A byte with no instruction (R378): a no-op in `ILLEGAL_CYCLES` dots, or a refusal with
`ILLEGAL_MODE = refuse` (assumption 23). -/
def illegal (op : Byte) (s : State) : Result :=
  match s.params.illegalMode with
  | .nop => finish s.params.illegalCycles s
  | .refuse => .refused (.illegalOpcode op)

/-- STOP (R377). -/
def execStop (_skipped : Byte) (s : State) : Result := stop s

/-- HALT (R376). -/
def execHalt (s : State) : Result := suspend s

/-- The byte 0xD3 (R378). -/
def execIllegalD3 (s : State) : Result := illegal 0xD3 s

/-- The byte 0xDB (R378). -/
def execIllegalDB (s : State) : Result := illegal 0xDB s

/-- The byte 0xDD (R378). -/
def execIllegalDD (s : State) : Result := illegal 0xDD s

/-- The byte 0xE3 (R378). -/
def execIllegalE3 (s : State) : Result := illegal 0xE3 s

/-- The byte 0xE4 (R378). -/
def execIllegalE4 (s : State) : Result := illegal 0xE4 s

/-- The byte 0xEB (R378). -/
def execIllegalEB (s : State) : Result := illegal 0xEB s

/-- The byte 0xEC (R378). -/
def execIllegalEC (s : State) : Result := illegal 0xEC s

/-- The byte 0xED (R378). -/
def execIllegalED (s : State) : Result := illegal 0xED s

/-- DI (R375). -/
def execDi (s : State) : Result := disableInterrupts s

/-- The byte 0xF4 (R378). -/
def execIllegalF4 (s : State) : Result := illegal 0xF4 s

/-- EI (R374). -/
def execEi (s : State) : Result := enableInterrupts s

/-- The byte 0xFC (R378). -/
def execIllegalFC (s : State) : Result := illegal 0xFC s

/-- The byte 0xFD (R378). -/
def execIllegalFD (s : State) : Result := illegal 0xFD s

end Sys2Proof.Machine
end

