-- ==== Sys2Proof/Machine/Compositor.lean ====
section
/-! DEFINITION. The compositor of 51_ppu_compositor.md: one scanline of background, window and sprites
into 160 pixels of the screen. It reads the memories directly, not through the bus, and writes
nothing but the pixel buffer and the priority record. -/

namespace Sys2Proof.Machine

/-- `GRAY[shade]` (R477). -/
def grayLevel (g : Gray) (shade : Byte) : Byte :=
  match shade with
  | 0 => g.g0
  | 1 => g.g1
  | 2 => g.g2
  | _ => g.g3

/-- The shade a palette register holds for a color index: bits 2i+1..2i (R54, R468). -/
def shadeOf (pal : Byte) (ci : BitVec 2) : Byte := (pal >>> (2 * ci.toNat)) &&& 3

/-- A gray pixel through a palette register (R468, R473). -/
def State.grayPixel (s : State) (pal : Byte) (ci : BitVec 2) : Rgb :=
  let g := grayLevel s.params.gray (shadeOf pal ci)
  ⟨g, g, g⟩

/-- The default `COLOR_MIX` (R478). -/
def mixFormula (w : BitVec 15) : Rgb :=
  let r := w.toNat % 32
  let g := w.toNat / 32 % 32
  let b := w.toNat / 1024 % 32
  { r := BitVec.ofNat 8 ((r * 13 + g * 2 + b) / 2)
    g := BitVec.ofNat 8 ((g * 3 + b) * 2)
    b := BitVec.ofNat 8 ((r * 3 + g * 2 + b * 11) / 2) }

/-- `ColorMix(w)` (R478, D27). A table that ends early leaves the formula (assumption 2). -/
def mixColor (m : ColorMix) (w : BitVec 15) : Rgb :=
  match m with
  | .formula => mixFormula w
  | .table entries => entries.getD w.toNat (mixFormula w)

/-- The 15-bit entry `e` of a palette memory: low byte first, bit 15 unused (R68). -/
def paletteEntry (m : Memory) (e : Nat) : BitVec 15 :=
  (word (Memory.read m (2 * e + 1)) (Memory.read m (2 * e))).setWidth 15

/-- A colour pixel: entry `4 * number + ci` of a palette memory (R468, R473). -/
def State.colorPixel (s : State) (m : Memory) (number : Byte) (ci : BitVec 2) : Rgb :=
  mixColor s.params.colorMix (paletteEntry m (4 * (number.toNat % 8) + ci.toNat))

/-- A byte of a VRAM bank. -/
def State.vramAt (s : State) (bank : Bool) (i : Nat) : Byte :=
  if bank then Memory.read s.mem.vram1 i else Memory.read s.mem.vram0 i

/-- The color index of column `fx` (0 is leftmost) from the two plane bytes (R464). -/
def colorIndex (low high : Byte) (fx : Nat) : BitVec 2 :=
  (BitVec.ofBool (bit high (7 - fx))) ++ (BitVec.ofBool (bit low (7 - fx)))

/-- The window covers pixel `x` of line `ly` (R462). -/
def State.inWindow (s : State) (ly x : Nat) : Bool :=
  bit s.ppu.lcdc 5 && decide (s.ppu.wy.toNat ≤ ly) && decide (s.ppu.wx.toNat ≤ x + 7)

/-- The offset in VRAM of the tile map a LCDC bit selects: 0x9800 or 0x9C00 (R48). -/
def mapBase (alt : Bool) : Nat := if alt then 0x1C00 else 0x1800

/-- The map offset, row and column of a background or window pixel (R462). -/
def State.bgPlace (s : State) (ly x : Nat) : Nat × Nat × Nat :=
  if s.inWindow ly x then
    (mapBase (bit s.ppu.lcdc 6), ly - s.ppu.wy.toNat, x + 7 - s.ppu.wx.toNat)
  else
    (mapBase (bit s.ppu.lcdc 3), (ly + s.ppu.scy.toNat) % 256, (x + s.ppu.scx.toNat) % 256)

/-- The offset in VRAM of background tile `t` (R464): from 0x8000, or signed from 0x9000. -/
def bgTileOffset (unsigned : Bool) (t : Byte) : Nat :=
  if unsigned then 16 * t.toNat else ((0x1000 : Int) + 16 * t.toInt).toNat

/-- The background attribute byte (R463, R465): 0 on DMG. -/
def State.bgAttr (s : State) (maddr : Nat) : Byte :=
  match s.params.model with
  | .cgb => Memory.read s.mem.vram1 maddr
  | .dmg => 0

/-- The color of a background pixel (R468). -/
def State.bgColor (s : State) (attr : Byte) (ci : BitVec 2) : Rgb :=
  match s.params.model with
  | .cgb => s.colorPixel s.mem.bgPal (attr &&& 7) ci
  | .dmg => s.grayPixel s.ppu.bgp ci

/-- A tile pixel of the background or window, from its map offset, row and column (R463 to R468). -/
def State.tilePixel (s : State) (base row col : Nat) : Prio × Rgb :=
  let maddr := base + row / 8 * 32 + col / 8
  let t := Memory.read s.mem.vram0 maddr
  let attr := s.bgAttr maddr
  let offset := bgTileOffset (bit s.ppu.lcdc 4) t
  let fy := if bit attr 6 then 7 - row % 8 else row % 8
  let fx := if bit attr 5 then 7 - col % 8 else col % 8
  let low := s.vramAt (bit attr 3) (offset + 2 * fy)
  let high := s.vramAt (bit attr 3) (offset + 2 * fy + 1)
  let ci := colorIndex low high fx
  (⟨bit attr 7, ci⟩, s.bgColor attr ci)

/-- The background is blank (R466): DMG with LCDC[0] = 0. -/
def State.bgBlank (s : State) : Bool :=
  match s.params.model with
  | .dmg => !bit s.ppu.lcdc 0
  | .cgb => false

/-- `BgPixel(ly, x)` (R461 to R468). -/
def State.bgPixel (s : State) (ly x : Nat) : Prio × Rgb :=
  if s.bgBlank then
    (⟨false, 0⟩, ⟨s.params.gray.g0, s.params.gray.g0, s.params.gray.g0⟩)
  else
    let (base, row, col) := s.bgPlace ly x
    s.tilePixel base row col

/-- A sprite descriptor: OAM entry `k` (R65). -/
structure Sprite where
  y    : Byte
  x    : Byte
  tile : Byte
  attr : Byte
  deriving DecidableEq, Repr

/-- OAM entry `k`, bytes `4k` to `4k + 3` (R65, R470). -/
def State.sprite (s : State) (k : Nat) : Sprite where
  y    := Memory.read s.mem.oam (4 * k)
  x    := Memory.read s.mem.oam (4 * k + 1)
  tile := Memory.read s.mem.oam (4 * k + 2)
  attr := Memory.read s.mem.oam (4 * k + 3)

/-- The sprite height: LCDC[2] (R470). -/
def State.spriteHeight (s : State) : Nat := if bit s.ppu.lcdc 2 then 16 else 8

/-- The sprite intersects the line: `Y - 16 ≤ ly < Y - 16 + h` (R470). -/
def Sprite.onLine (o : Sprite) (h ly : Nat) : Bool :=
  decide (o.y.toNat ≤ ly + 16) && decide (ly + 16 < o.y.toNat + h)

/-- The two plane bytes of the sprite's row on line `ly` (R471). -/
def State.spriteRow (s : State) (o : Sprite) (ly : Nat) : Byte × Byte :=
  let h := s.spriteHeight
  let row := ly + 16 - o.y.toNat
  let srow := if bit o.attr 6 then h - 1 - row else row
  let tile := if h = 16 then o.tile &&& 0xFE else o.tile
  let bank := match s.params.model with
    | .cgb => bit o.attr 3
    | .dmg => false
  let offset := 16 * tile.toNat + 2 * srow
  (s.vramAt bank offset, s.vramAt bank (offset + 1))

/-- `ObjColor(A, ci)` (R473). -/
def State.objColor (s : State) (attr : Byte) (ci : BitVec 2) : Rgb :=
  match s.params.model with
  | .cgb => s.colorPixel s.mem.objPal (attr &&& 7) ci
  | .dmg => s.grayPixel (if bit attr 4 then s.ppu.obp1 else s.ppu.obp0) ci

/-- A sprite pixel is suppressed (R472): transparent, or behind a non-zero background pixel. -/
def suppressed (p : Prio) (attr : Byte) (ci : BitVec 2) : Bool :=
  ci == 0 || ((p.bg || bit attr 7) && p.ci != 0)

/-- Pixel `px` of a sprite, drawn on a line (R472). -/
def State.drawSpritePixel (s : State) (prio : List Prio) (o : Sprite) (low high : Byte)
    (line : List Rgb) (px : Nat) : List Rgb :=
  let sx := o.x.toNat + px
  if 8 ≤ sx ∧ sx < 168 then
    let fx := if bit o.attr 5 then 7 - px else px
    let ci := colorIndex low high fx
    if suppressed (prio.getD (sx - 8) ⟨false, 0⟩) o.attr ci then line
    else line.set (sx - 8) (s.objColor o.attr ci)
  else line

/-- OAM entry `k` drawn on line `ly`, if it intersects it (R470 to R472). -/
def State.drawSprite (s : State) (prio : List Prio) (ly : Nat) (line : List Rgb) (k : Nat) :
    List Rgb :=
  let o := s.sprite k
  if o.onLine s.spriteHeight ly then
    let (low, high) := s.spriteRow o ly
    [0, 1, 2, 3, 4, 5, 6, 7].foldl (s.drawSpritePixel prio o low high) line
  else line

/-- `SpritePass(ly)` over the entries below `n`, from `n - 1` down to 0 (R470). -/
def State.spritePass (s : State) (prio : List Prio) (ly : Nat) : Nat → List Rgb → List Rgb
  | 0, line => line
  | k + 1, line => s.spritePass prio ly k (s.drawSprite prio ly line k)

/-- The background pass of line `ly`: 160 pixels with their priority record (R461). -/
def State.bgLine (s : State) (ly : Nat) : List (Prio × Rgb) := (List.range 160).map (s.bgPixel ly)

/-- The finished line: the background, then the 40 sprites if LCDC[1] is set (R461). -/
def State.lineOf (s : State) (ly : Nat) : List Rgb :=
  let bg := s.bgLine ly
  if bit s.ppu.lcdc 1 then s.spritePass (bg.map Prod.fst) ly 40 (bg.map Prod.snd)
  else bg.map Prod.snd

/-- `RenderLine(ly)` (R461). -/
def State.renderLine (s : State) (ly : Nat) : State :=
  { s with lcd.prio := (s.bgLine ly).map Prod.fst, lcd.screen := s.lcd.screen.set ly (s.lineOf ly) }

end Sys2Proof.Machine
end

