-- ==== Sys2Proof/Machine/PpuTiming.lean ====
section
/-! DEFINITION. The PPU's dot-timing state machine (50_ppu_timing.md R401 to R424). -/

namespace Sys2Proof.Machine

/-- `ModeOf(ly, dots)` (R402). -/
def modeOf (ly dots : Nat) : LcdMode :=
  if 144 ≤ ly then .vblank
  else if dots < 80 then .oamScan
  else if dots < 252 then .transfer
  else .hblank

/-- Request bit 0, VBlank (R505). -/
def reqVblank : BitVec 5 := 0b00001

/-- Request bit 1, LCD STAT (R505). -/
def reqStat : BitVec 5 := 0b00010

/-- `if p: Request(m)`. -/
def State.requestIf (s : State) (p : Bool) (m : BitVec 5) : State := if p then s.request m else s

/-- Bit `i` of STAT, for the enables i = 3..6 (R49): bit `i - 3` of `stat_en`. -/
def State.statBit (s : State) (i : Nat) : Bool := s.ppu.statEn.getLsbD (i - 3)

/-- `EnterMode(m)` (R422), in the order of its table. -/
def State.enterMode (s : State) : LcdMode → State
  | .oamScan  => s.requestIf (s.statBit 5) reqStat
  | .transfer => s
  | .hblank   => ((s.requestIf (s.statBit 3) reqStat).renderLine s.ppu.ly.toNat).hdmaAtHblank
  | .vblank   => (s.request reqVblank).requestIf (s.statBit 4) reqStat

/-- The dot counter moves on; at the 456-dot boundary LY moves on and is compared with LYC
(R421, R423). -/
def State.advanceDot (s : State) : State :=
  if s.ppu.dots + 1 = 456 then
    let t := { s with ppu.dots := 0, ppu.ly := BitVec.ofNat 8 ((s.ppu.ly.toNat + 1) % 154) }
    t.requestIf (t.ppu.ly == t.ppu.lyc && t.statBit 6) reqStat
  else { s with ppu.dots := s.ppu.dots + 1 }

/-- The mode follows the line and the dot; a change of mode has its one-shot actions (R421). -/
def State.updateMode (s : State) : State :=
  let m := modeOf s.ppu.ly.toNat s.ppu.dots
  if m = s.ppu.mode then s else { s with ppu.mode := m }.enterMode m

/-- `DotStep()` (R421). -/
def State.dotStep (s : State) : State := s.advanceDot.updateMode

/-- One dot of a tick: nothing while the LCD is off (R413, R420). -/
def State.dot (s : State) : State := if bit s.ppu.lcdc 7 then s.dotStep else s

/-- `tick(c)` (R420): `c` dots, one at a time. -/
def State.tick : Nat → State → State
  | 0, s => s
  | c + 1, s => State.tick c s.dot

end Sys2Proof.Machine
end

