-- ==== Sys2Proof/Machine/Cpu.lean ====
section
/-! DEFINITION. The CPU's `step()` (47_system.md R371 to R373, R379), the driver loop around it (R390),
and placing a program's bytes where the next step fetches. -/

namespace Sys2Proof.Machine

/-- `execute()` (R372, R373): fetch the opcode, its operand bytes or the byte after the CB prefix,
and run the instruction they are. -/
def State.execute (s : State) : Result :=
  let (op, t) := s.fetchOpcode
  match decodeOp op with
  | .op i => exec i t
  | .imm8 f =>
    let (n, u) := t.fetch8
    exec (f n) u
  | .imm16 f =>
    let (nn, u) := t.fetch16
    exec (f nn) u
  | .cbPrefix =>
    let (op2, u) := t.fetch8
    exec (decodeCb op2) u

/-- What every executed instruction ends with (R379). -/
def afterInstruction : Result → Result
  | .next t => .next t.countDown
  | .fault r => .fault r
  | .refused r => .refused r

/-- `step()` of the CPU (R371): an idle halted step, an interrupt entry, or one instruction. -/
def State.cpuStep (s : State) : Result :=
  if s.cpu.halted && s.pend == 0 then finish 4 s
  else
    let t := { s with cpu.halted := false }
    if s.cpu.ime && s.pend != 0 then .next (t.enterInterrupt (lowestSet s.pend))
    else afterInstruction t.execute

/-- What the driver does after a CPU step (R390): tick the PPU by its count, then let the external
posts arrive. -/
def State.drive (s : State) : State := (State.tick s.cycles s).takePosts

/-- One turn of the driver loop (R390). -/
def State.turn (s : State) : Result :=
  match s.cpuStep with
  | .next t => .next t.drive
  | .fault r => .fault r
  | .refused r => .refused r

/-- The three bytes from `a` on lie in plain storage. -/
def storable3 (a : Word) : Bool :=
  (route a).storage && (route (a + 1)).storage && (route (a + 2)).storage

/-- A byte placed at `a` is the byte fetched there: `a` is not in the window of a cartridge whose
contents nothing is known of. -/
def State.placeable (s : State) (a : Word) : Bool :=
  match route a, s.params.cart with
  | .cart _, .device _ => false
  | _, _ => true

/-- The address the next step will fetch from: PC, or, if PC points where no program can be placed, the
entry point 0x0100, or the start of work RAM if none can be placed there either. -/
def State.fetchHome (s : State) : Word :=
  if storable3 s.cpu.pc && s.placeable s.cpu.pc && s.placeable (s.cpu.pc + 2) then s.cpu.pc
  else if s.placeable 0x0100 then 0x0100
  else 0xC000

/-- The state made ready to fetch at `fetchHome`: not halted, no double fetch, no interrupt due, and
an `unknown` cartridge answering from its contents. -/
def State.readyToFetch (s : State) : State :=
  { s with cpu.pc := s.fetchHome, cpu.halted := false, cpu.holdPc := false,
           cpu.ime := s.cpu.ime && s.pend == 0, env.cartLog := [] }

/-- Bytes placed from `a` on. -/
def State.placeBytes (s : State) (a : Word) : List Byte → State
  | [] => s
  | v :: rest => (s.place a v).placeBytes (a + 1) rest

end Sys2Proof.Machine
end

