-- ==== Sys2Proof/Machine/Step.lean ====
section
/-! DEFINITION. The step of the machine: one turn of the driver loop (R390). -/

namespace Sys2Proof.Machine

/-- One step: the CPU's `step()`, the PPU's `tick` by its count, the external posts (R390). -/
def step (s : State) : Host.Outcome State Fault Refusal := s.turn

/-- `s` with the instruction that spec/opcode_table.json numbers `w` placed where the next step
fetches it, so that step runs exactly it (assumption 20). -/
def State.withFetchWord (s : State) (nbits w : Nat) : State :=
  s.readyToFetch.placeBytes s.fetchHome (tableBytes nbits w)

end Sys2Proof.Machine
end

