-- ==== Sys2Proof/Safety.lean ====
section
/-! DEFINITION. What claims call a good state: the invariants the spec states or implies, each a
decidable proposition, and the parameters under which no step can stop. -/

namespace Sys2Proof.Machine

/-- F[3:0] = 0 (R33). -/
abbrev State.flagsOk (s : State) : Prop := s.cpu.f &&& 0x0F = 0

/-- The invariants of R426: the dot and the line in range; with the LCD on the mode is `ModeOf`,
except at the clean start; with the LCD off everything is 0 (R412, R413). -/
abbrev State.ppuOk (s : State) : Prop :=
  s.ppu.dots < 456 ∧ s.ppu.ly.toNat < 154 ∧
    (s.ppu.mode = modeOf s.ppu.ly.toNat s.ppu.dots ∧ bit s.ppu.lcdc 7 = true ∨
      s.ppu.dots = 0 ∧ s.ppu.ly = 0 ∧ s.ppu.mode = .hblank)

/-- Every memory is in canonical form and no larger than the spec makes it (R64, R65, R68). -/
abbrev Mems.ok (m : Mems) : Prop :=
  (m.cart.wf && m.vram0.wf && m.vram1.wf && m.wram.wf && m.hram.wf && m.oam.wf && m.bgPal.wf &&
    m.objPal.wf) = true ∧
  (m.cart.within 0xC000 && m.vram0.within 0x2000 && m.vram1.within 0x2000 && m.wram.within 0x2000 &&
    m.hram.within 127 && m.oam.within 160 && m.bgPal.within 64 && m.objPal.within 64) = true

/-- Every memory of the state is in canonical form and within its size. -/
abbrev State.memOk (s : State) : Prop := s.mem.ok

/-- The pixel buffer has 144 lines of 160 pixels (R61), the priority record 160 entries (R62). -/
abbrev State.screenOk (s : State) : Prop :=
  s.lcd.screen.length = 144 ∧ (∀ line ∈ s.lcd.screen, line.length = 160) ∧ s.lcd.prio.length = 160

/-- The HDMA descriptor (R59): 16-byte aligned addresses, a destination in VRAM (or never yet
written, assumption 15), at most 128 blocks left, at least one while a transfer is active. -/
abbrev Hdma.ok (d : Hdma) : Prop :=
  d.src &&& 0x000F = 0 ∧ d.dst &&& 0x000F = 0 ∧
    (d.dst.toNat < 0x0100 ∨ 0x8000 ≤ d.dst.toNat ∧ d.dst.toNat < 0xA000) ∧
    d.remaining.toNat ≤ 128 ∧ (d.active = true → d.remaining ≠ 0)

/-- The HDMA descriptor of the state. -/
abbrev State.hdmaOk (s : State) : Prop := s.hdma.ok

/-- The parameters make no instruction refuse (R377, R378): the defaults. -/
abbrev State.runs (s : State) : Prop := s.params.illegalMode = .nop ∧ s.params.stopMode = .nop

/-- A run of `n` steps that never stops. -/
def State.safeFor (s : State) (n : Nat) : Prop := ∃ t, Sys2Proof.core.run n s = .next t

end Sys2Proof.Machine
end

