-- ==== Sys2Proof/Claims.lean ====
section
/-! DEFINITION. The words the statements are written in: the forms of the instruction set with their
operand fields (R132 to R141), what a form stores to and which registers it writes, the bytes a step
fetches, and one sprite's pixel seen by itself. -/

namespace Sys2Proof.Machine

/-- The address of a load or store of A (R206 to R215). -/
inductive AddrForm where
  | bc
  | de
  | abs (nn : Word)
  | high (n : Byte)
  | highC
  deriving DecidableEq, Repr

/-- The address, in the state the operands are read in. -/
def AddrForm.addr (m : AddrForm) (s : State) : Word :=
  match m with
  | .bc     => s.bc
  | .de     => s.de
  | .abs nn => nn
  | .high n => highPage n
  | .highC  => highPage s.cpu.c

/-- The forms of the instruction set: one for each rule of the families, with the operand fields of
R135 to R140. -/
inductive Form where
  | nop
  | illegal (op : Byte)
  | stop
  | halt
  | di
  | ei
  | ldRegReg (dst r : Reg8)
  | ldRegImm (dst : Reg8) (n : Byte)
  | ldRegMem (dst : Reg8)
  | ldMemReg (r : Reg8)
  | ldMemImm (n : Byte)
  | loadA (m : AddrForm)
  | storeA (m : AddrForm)
  | loadAStep (up : Bool)
  | storeAStep (up : Bool)
  | ldPairImm (p : Pair) (nn : Word)
  | storeSp (nn : Word)
  | ldSpHl
  | ldHlSp (e : Byte)
  | addSp (e : Byte)
  | aluReg (op : AluOp) (r : Reg8)
  | aluMem (op : AluOp)
  | aluImm (op : AluOp) (n : Byte)
  | addHl (p : Pair)
  | incPair (p : Pair)
  | decPair (p : Pair)
  | incReg (r : Reg8)
  | decReg (r : Reg8)
  | incMem
  | decMem
  | daa
  | cpl
  | scf
  | ccf
  | rotA (k : RotOp)
  | cbRot (k : RotOp) (z : Operand)
  | cbBit (b : Fin 8) (z : Operand)
  | cbRes (b : Fin 8) (z : Operand)
  | cbSet (b : Fin 8) (z : Operand)
  | jp (nn : Word)
  | jpIf (cc : Cond) (nn : Word)
  | jpHl
  | jr (e : Byte)
  | jrIf (cc : Cond) (e : Byte)
  | call (nn : Word)
  | callIf (cc : Cond) (nn : Word)
  | ret
  | retIf (cc : Cond)
  | reti
  | rst (y : Fin 8)
  | push (p : StackPair)
  | pop (p : StackPair)
  | prefixed (op2 : Byte)
  deriving DecidableEq, Repr

/-- The form of an instruction. -/
def formOf (i : Instr) : Form :=
  match i with
  | .nop => .nop
  | .ldBcNn nn => .ldPairImm .bc nn
  | .ldIndBcA => .storeA .bc
  | .incBc => .incPair .bc
  | .incB => .incReg .b
  | .decB => .decReg .b
  | .ldBN n => .ldRegImm .b n
  | .rlca => .rotA .rlc
  | .ldIndNnSp nn => .storeSp nn
  | .addHlBc => .addHl .bc
  | .ldAIndBc => .loadA .bc
  | .decBc => .decPair .bc
  | .incC => .incReg .c
  | .decC => .decReg .c
  | .ldCN n => .ldRegImm .c n
  | .rrca => .rotA .rrc
  | .stop _ => .stop
  | .ldDeNn nn => .ldPairImm .de nn
  | .ldIndDeA => .storeA .de
  | .incDe => .incPair .de
  | .incD => .incReg .d
  | .decD => .decReg .d
  | .ldDN n => .ldRegImm .d n
  | .rla => .rotA .rl
  | .jrE e => .jr e
  | .addHlDe => .addHl .de
  | .ldAIndDe => .loadA .de
  | .decDe => .decPair .de
  | .incE => .incReg .e
  | .decE => .decReg .e
  | .ldEN n => .ldRegImm .e n
  | .rra => .rotA .rr
  | .jrNzE e => .jrIf .nz e
  | .ldHlNn nn => .ldPairImm .hl nn
  | .ldIndHlIncA => .storeAStep true
  | .incHl => .incPair .hl
  | .incH => .incReg .h
  | .decH => .decReg .h
  | .ldHN n => .ldRegImm .h n
  | .daa => .daa
  | .jrZE e => .jrIf .z e
  | .addHlHl => .addHl .hl
  | .ldAIndHlInc => .loadAStep true
  | .decHl => .decPair .hl
  | .incL => .incReg .l
  | .decL => .decReg .l
  | .ldLN n => .ldRegImm .l n
  | .cpl => .cpl
  | .jrNcE e => .jrIf .nc e
  | .ldSpNn nn => .ldPairImm .sp nn
  | .ldIndHlDecA => .storeAStep false
  | .incSp => .incPair .sp
  | .incIndHl => .incMem
  | .decIndHl => .decMem
  | .ldIndHlN n => .ldMemImm n
  | .scf => .scf
  | .jrCE e => .jrIf .c e
  | .addHlSp => .addHl .sp
  | .ldAIndHlDec => .loadAStep false
  | .decSp => .decPair .sp
  | .incA => .incReg .a
  | .decA => .decReg .a
  | .ldAN n => .ldRegImm .a n
  | .ccf => .ccf
  | .ldBB => .ldRegReg .b .b
  | .ldBC => .ldRegReg .b .c
  | .ldBD => .ldRegReg .b .d
  | .ldBE => .ldRegReg .b .e
  | .ldBH => .ldRegReg .b .h
  | .ldBL => .ldRegReg .b .l
  | .ldBIndHl => .ldRegMem .b
  | .ldBA => .ldRegReg .b .a
  | .ldCB => .ldRegReg .c .b
  | .ldCC => .ldRegReg .c .c
  | .ldCD => .ldRegReg .c .d
  | .ldCE => .ldRegReg .c .e
  | .ldCH => .ldRegReg .c .h
  | .ldCL => .ldRegReg .c .l
  | .ldCIndHl => .ldRegMem .c
  | .ldCA => .ldRegReg .c .a
  | .ldDB => .ldRegReg .d .b
  | .ldDC => .ldRegReg .d .c
  | .ldDD => .ldRegReg .d .d
  | .ldDE => .ldRegReg .d .e
  | .ldDH => .ldRegReg .d .h
  | .ldDL => .ldRegReg .d .l
  | .ldDIndHl => .ldRegMem .d
  | .ldDA => .ldRegReg .d .a
  | .ldEB => .ldRegReg .e .b
  | .ldEC => .ldRegReg .e .c
  | .ldED => .ldRegReg .e .d
  | .ldEE => .ldRegReg .e .e
  | .ldEH => .ldRegReg .e .h
  | .ldEL => .ldRegReg .e .l
  | .ldEIndHl => .ldRegMem .e
  | .ldEA => .ldRegReg .e .a
  | .ldHB => .ldRegReg .h .b
  | .ldHC => .ldRegReg .h .c
  | .ldHD => .ldRegReg .h .d
  | .ldHE => .ldRegReg .h .e
  | .ldHH => .ldRegReg .h .h
  | .ldHL => .ldRegReg .h .l
  | .ldHIndHl => .ldRegMem .h
  | .ldHA => .ldRegReg .h .a
  | .ldLB => .ldRegReg .l .b
  | .ldLC => .ldRegReg .l .c
  | .ldLD => .ldRegReg .l .d
  | .ldLE => .ldRegReg .l .e
  | .ldLH => .ldRegReg .l .h
  | .ldLL => .ldRegReg .l .l
  | .ldLIndHl => .ldRegMem .l
  | .ldLA => .ldRegReg .l .a
  | .ldIndHlB => .ldMemReg .b
  | .ldIndHlC => .ldMemReg .c
  | .ldIndHlD => .ldMemReg .d
  | .ldIndHlE => .ldMemReg .e
  | .ldIndHlH => .ldMemReg .h
  | .ldIndHlL => .ldMemReg .l
  | .halt => .halt
  | .ldIndHlA => .ldMemReg .a
  | .ldAB => .ldRegReg .a .b
  | .ldAC => .ldRegReg .a .c
  | .ldAD => .ldRegReg .a .d
  | .ldAE => .ldRegReg .a .e
  | .ldAH => .ldRegReg .a .h
  | .ldAL => .ldRegReg .a .l
  | .ldAIndHl => .ldRegMem .a
  | .ldAA => .ldRegReg .a .a
  | .addAB => .aluReg .add .b
  | .addAC => .aluReg .add .c
  | .addAD => .aluReg .add .d
  | .addAE => .aluReg .add .e
  | .addAH => .aluReg .add .h
  | .addAL => .aluReg .add .l
  | .addAIndHl => .aluMem .add
  | .addAA => .aluReg .add .a
  | .adcAB => .aluReg .adc .b
  | .adcAC => .aluReg .adc .c
  | .adcAD => .aluReg .adc .d
  | .adcAE => .aluReg .adc .e
  | .adcAH => .aluReg .adc .h
  | .adcAL => .aluReg .adc .l
  | .adcAIndHl => .aluMem .adc
  | .adcAA => .aluReg .adc .a
  | .subAB => .aluReg .sub .b
  | .subAC => .aluReg .sub .c
  | .subAD => .aluReg .sub .d
  | .subAE => .aluReg .sub .e
  | .subAH => .aluReg .sub .h
  | .subAL => .aluReg .sub .l
  | .subAIndHl => .aluMem .sub
  | .subAA => .aluReg .sub .a
  | .sbcAB => .aluReg .sbc .b
  | .sbcAC => .aluReg .sbc .c
  | .sbcAD => .aluReg .sbc .d
  | .sbcAE => .aluReg .sbc .e
  | .sbcAH => .aluReg .sbc .h
  | .sbcAL => .aluReg .sbc .l
  | .sbcAIndHl => .aluMem .sbc
  | .sbcAA => .aluReg .sbc .a
  | .andAB => .aluReg .and .b
  | .andAC => .aluReg .and .c
  | .andAD => .aluReg .and .d
  | .andAE => .aluReg .and .e
  | .andAH => .aluReg .and .h
  | .andAL => .aluReg .and .l
  | .andAIndHl => .aluMem .and
  | .andAA => .aluReg .and .a
  | .xorAB => .aluReg .xor .b
  | .xorAC => .aluReg .xor .c
  | .xorAD => .aluReg .xor .d
  | .xorAE => .aluReg .xor .e
  | .xorAH => .aluReg .xor .h
  | .xorAL => .aluReg .xor .l
  | .xorAIndHl => .aluMem .xor
  | .xorAA => .aluReg .xor .a
  | .orAB => .aluReg .or .b
  | .orAC => .aluReg .or .c
  | .orAD => .aluReg .or .d
  | .orAE => .aluReg .or .e
  | .orAH => .aluReg .or .h
  | .orAL => .aluReg .or .l
  | .orAIndHl => .aluMem .or
  | .orAA => .aluReg .or .a
  | .cpAB => .aluReg .cp .b
  | .cpAC => .aluReg .cp .c
  | .cpAD => .aluReg .cp .d
  | .cpAE => .aluReg .cp .e
  | .cpAH => .aluReg .cp .h
  | .cpAL => .aluReg .cp .l
  | .cpAIndHl => .aluMem .cp
  | .cpAA => .aluReg .cp .a
  | .retNz => .retIf .nz
  | .popBc => .pop .bc
  | .jpNzNn nn => .jpIf .nz nn
  | .jpNn nn => .jp nn
  | .callNzNn nn => .callIf .nz nn
  | .pushBc => .push .bc
  | .addAN n => .aluImm .add n
  | .rst00 => .rst 0
  | .retZ => .retIf .z
  | .ret => .ret
  | .jpZNn nn => .jpIf .z nn
  | .prefixCb op2 => .prefixed op2
  | .callZNn nn => .callIf .z nn
  | .callNn nn => .call nn
  | .adcAN n => .aluImm .adc n
  | .rst08 => .rst 1
  | .retNc => .retIf .nc
  | .popDe => .pop .de
  | .jpNcNn nn => .jpIf .nc nn
  | .illegalD3 => .illegal 0xD3
  | .callNcNn nn => .callIf .nc nn
  | .pushDe => .push .de
  | .subAN n => .aluImm .sub n
  | .rst10 => .rst 2
  | .retC => .retIf .c
  | .reti => .reti
  | .jpCNn nn => .jpIf .c nn
  | .illegalDB => .illegal 0xDB
  | .callCNn nn => .callIf .c nn
  | .illegalDD => .illegal 0xDD
  | .sbcAN n => .aluImm .sbc n
  | .rst18 => .rst 3
  | .ldhIndNA n => .storeA (.high n)
  | .popHl => .pop .hl
  | .ldIndCA => .storeA .highC
  | .illegalE3 => .illegal 0xE3
  | .illegalE4 => .illegal 0xE4
  | .pushHl => .push .hl
  | .andAN n => .aluImm .and n
  | .rst20 => .rst 4
  | .addSpE e => .addSp e
  | .jpHl => .jpHl
  | .ldIndNnA nn => .storeA (.abs nn)
  | .illegalEB => .illegal 0xEB
  | .illegalEC => .illegal 0xEC
  | .illegalED => .illegal 0xED
  | .xorAN n => .aluImm .xor n
  | .rst28 => .rst 5
  | .ldhAIndN n => .loadA (.high n)
  | .popAf => .pop .af
  | .ldAIndC => .loadA .highC
  | .di => .di
  | .illegalF4 => .illegal 0xF4
  | .pushAf => .push .af
  | .orAN n => .aluImm .or n
  | .rst30 => .rst 6
  | .ldHlSpE e => .ldHlSp e
  | .ldSpHl => .ldSpHl
  | .ldAIndNn nn => .loadA (.abs nn)
  | .ei => .ei
  | .illegalFC => .illegal 0xFC
  | .illegalFD => .illegal 0xFD
  | .cpAN n => .aluImm .cp n
  | .rst38 => .rst 7
  | .rlcB => .cbRot .rlc (.reg .b)
  | .rlcC => .cbRot .rlc (.reg .c)
  | .rlcD => .cbRot .rlc (.reg .d)
  | .rlcE => .cbRot .rlc (.reg .e)
  | .rlcH => .cbRot .rlc (.reg .h)
  | .rlcL => .cbRot .rlc (.reg .l)
  | .rlcIndHl => .cbRot .rlc .indHl
  | .rlcA => .cbRot .rlc (.reg .a)
  | .rrcB => .cbRot .rrc (.reg .b)
  | .rrcC => .cbRot .rrc (.reg .c)
  | .rrcD => .cbRot .rrc (.reg .d)
  | .rrcE => .cbRot .rrc (.reg .e)
  | .rrcH => .cbRot .rrc (.reg .h)
  | .rrcL => .cbRot .rrc (.reg .l)
  | .rrcIndHl => .cbRot .rrc .indHl
  | .rrcA => .cbRot .rrc (.reg .a)
  | .rlB => .cbRot .rl (.reg .b)
  | .rlC => .cbRot .rl (.reg .c)
  | .rlD => .cbRot .rl (.reg .d)
  | .rlE => .cbRot .rl (.reg .e)
  | .rlH => .cbRot .rl (.reg .h)
  | .rlL => .cbRot .rl (.reg .l)
  | .rlIndHl => .cbRot .rl .indHl
  | .rlA => .cbRot .rl (.reg .a)
  | .rrB => .cbRot .rr (.reg .b)
  | .rrC => .cbRot .rr (.reg .c)
  | .rrD => .cbRot .rr (.reg .d)
  | .rrE => .cbRot .rr (.reg .e)
  | .rrH => .cbRot .rr (.reg .h)
  | .rrL => .cbRot .rr (.reg .l)
  | .rrIndHl => .cbRot .rr .indHl
  | .rrA => .cbRot .rr (.reg .a)
  | .slaB => .cbRot .sla (.reg .b)
  | .slaC => .cbRot .sla (.reg .c)
  | .slaD => .cbRot .sla (.reg .d)
  | .slaE => .cbRot .sla (.reg .e)
  | .slaH => .cbRot .sla (.reg .h)
  | .slaL => .cbRot .sla (.reg .l)
  | .slaIndHl => .cbRot .sla .indHl
  | .slaA => .cbRot .sla (.reg .a)
  | .sraB => .cbRot .sra (.reg .b)
  | .sraC => .cbRot .sra (.reg .c)
  | .sraD => .cbRot .sra (.reg .d)
  | .sraE => .cbRot .sra (.reg .e)
  | .sraH => .cbRot .sra (.reg .h)
  | .sraL => .cbRot .sra (.reg .l)
  | .sraIndHl => .cbRot .sra .indHl
  | .sraA => .cbRot .sra (.reg .a)
  | .swapB => .cbRot .swap (.reg .b)
  | .swapC => .cbRot .swap (.reg .c)
  | .swapD => .cbRot .swap (.reg .d)
  | .swapE => .cbRot .swap (.reg .e)
  | .swapH => .cbRot .swap (.reg .h)
  | .swapL => .cbRot .swap (.reg .l)
  | .swapIndHl => .cbRot .swap .indHl
  | .swapA => .cbRot .swap (.reg .a)
  | .srlB => .cbRot .srl (.reg .b)
  | .srlC => .cbRot .srl (.reg .c)
  | .srlD => .cbRot .srl (.reg .d)
  | .srlE => .cbRot .srl (.reg .e)
  | .srlH => .cbRot .srl (.reg .h)
  | .srlL => .cbRot .srl (.reg .l)
  | .srlIndHl => .cbRot .srl .indHl
  | .srlA => .cbRot .srl (.reg .a)
  | .bit0B => .cbBit 0 (.reg .b)
  | .bit0C => .cbBit 0 (.reg .c)
  | .bit0D => .cbBit 0 (.reg .d)
  | .bit0E => .cbBit 0 (.reg .e)
  | .bit0H => .cbBit 0 (.reg .h)
  | .bit0L => .cbBit 0 (.reg .l)
  | .bit0IndHl => .cbBit 0 .indHl
  | .bit0A => .cbBit 0 (.reg .a)
  | .bit1B => .cbBit 1 (.reg .b)
  | .bit1C => .cbBit 1 (.reg .c)
  | .bit1D => .cbBit 1 (.reg .d)
  | .bit1E => .cbBit 1 (.reg .e)
  | .bit1H => .cbBit 1 (.reg .h)
  | .bit1L => .cbBit 1 (.reg .l)
  | .bit1IndHl => .cbBit 1 .indHl
  | .bit1A => .cbBit 1 (.reg .a)
  | .bit2B => .cbBit 2 (.reg .b)
  | .bit2C => .cbBit 2 (.reg .c)
  | .bit2D => .cbBit 2 (.reg .d)
  | .bit2E => .cbBit 2 (.reg .e)
  | .bit2H => .cbBit 2 (.reg .h)
  | .bit2L => .cbBit 2 (.reg .l)
  | .bit2IndHl => .cbBit 2 .indHl
  | .bit2A => .cbBit 2 (.reg .a)
  | .bit3B => .cbBit 3 (.reg .b)
  | .bit3C => .cbBit 3 (.reg .c)
  | .bit3D => .cbBit 3 (.reg .d)
  | .bit3E => .cbBit 3 (.reg .e)
  | .bit3H => .cbBit 3 (.reg .h)
  | .bit3L => .cbBit 3 (.reg .l)
  | .bit3IndHl => .cbBit 3 .indHl
  | .bit3A => .cbBit 3 (.reg .a)
  | .bit4B => .cbBit 4 (.reg .b)
  | .bit4C => .cbBit 4 (.reg .c)
  | .bit4D => .cbBit 4 (.reg .d)
  | .bit4E => .cbBit 4 (.reg .e)
  | .bit4H => .cbBit 4 (.reg .h)
  | .bit4L => .cbBit 4 (.reg .l)
  | .bit4IndHl => .cbBit 4 .indHl
  | .bit4A => .cbBit 4 (.reg .a)
  | .bit5B => .cbBit 5 (.reg .b)
  | .bit5C => .cbBit 5 (.reg .c)
  | .bit5D => .cbBit 5 (.reg .d)
  | .bit5E => .cbBit 5 (.reg .e)
  | .bit5H => .cbBit 5 (.reg .h)
  | .bit5L => .cbBit 5 (.reg .l)
  | .bit5IndHl => .cbBit 5 .indHl
  | .bit5A => .cbBit 5 (.reg .a)
  | .bit6B => .cbBit 6 (.reg .b)
  | .bit6C => .cbBit 6 (.reg .c)
  | .bit6D => .cbBit 6 (.reg .d)
  | .bit6E => .cbBit 6 (.reg .e)
  | .bit6H => .cbBit 6 (.reg .h)
  | .bit6L => .cbBit 6 (.reg .l)
  | .bit6IndHl => .cbBit 6 .indHl
  | .bit6A => .cbBit 6 (.reg .a)
  | .bit7B => .cbBit 7 (.reg .b)
  | .bit7C => .cbBit 7 (.reg .c)
  | .bit7D => .cbBit 7 (.reg .d)
  | .bit7E => .cbBit 7 (.reg .e)
  | .bit7H => .cbBit 7 (.reg .h)
  | .bit7L => .cbBit 7 (.reg .l)
  | .bit7IndHl => .cbBit 7 .indHl
  | .bit7A => .cbBit 7 (.reg .a)
  | .res0B => .cbRes 0 (.reg .b)
  | .res0C => .cbRes 0 (.reg .c)
  | .res0D => .cbRes 0 (.reg .d)
  | .res0E => .cbRes 0 (.reg .e)
  | .res0H => .cbRes 0 (.reg .h)
  | .res0L => .cbRes 0 (.reg .l)
  | .res0IndHl => .cbRes 0 .indHl
  | .res0A => .cbRes 0 (.reg .a)
  | .res1B => .cbRes 1 (.reg .b)
  | .res1C => .cbRes 1 (.reg .c)
  | .res1D => .cbRes 1 (.reg .d)
  | .res1E => .cbRes 1 (.reg .e)
  | .res1H => .cbRes 1 (.reg .h)
  | .res1L => .cbRes 1 (.reg .l)
  | .res1IndHl => .cbRes 1 .indHl
  | .res1A => .cbRes 1 (.reg .a)
  | .res2B => .cbRes 2 (.reg .b)
  | .res2C => .cbRes 2 (.reg .c)
  | .res2D => .cbRes 2 (.reg .d)
  | .res2E => .cbRes 2 (.reg .e)
  | .res2H => .cbRes 2 (.reg .h)
  | .res2L => .cbRes 2 (.reg .l)
  | .res2IndHl => .cbRes 2 .indHl
  | .res2A => .cbRes 2 (.reg .a)
  | .res3B => .cbRes 3 (.reg .b)
  | .res3C => .cbRes 3 (.reg .c)
  | .res3D => .cbRes 3 (.reg .d)
  | .res3E => .cbRes 3 (.reg .e)
  | .res3H => .cbRes 3 (.reg .h)
  | .res3L => .cbRes 3 (.reg .l)
  | .res3IndHl => .cbRes 3 .indHl
  | .res3A => .cbRes 3 (.reg .a)
  | .res4B => .cbRes 4 (.reg .b)
  | .res4C => .cbRes 4 (.reg .c)
  | .res4D => .cbRes 4 (.reg .d)
  | .res4E => .cbRes 4 (.reg .e)
  | .res4H => .cbRes 4 (.reg .h)
  | .res4L => .cbRes 4 (.reg .l)
  | .res4IndHl => .cbRes 4 .indHl
  | .res4A => .cbRes 4 (.reg .a)
  | .res5B => .cbRes 5 (.reg .b)
  | .res5C => .cbRes 5 (.reg .c)
  | .res5D => .cbRes 5 (.reg .d)
  | .res5E => .cbRes 5 (.reg .e)
  | .res5H => .cbRes 5 (.reg .h)
  | .res5L => .cbRes 5 (.reg .l)
  | .res5IndHl => .cbRes 5 .indHl
  | .res5A => .cbRes 5 (.reg .a)
  | .res6B => .cbRes 6 (.reg .b)
  | .res6C => .cbRes 6 (.reg .c)
  | .res6D => .cbRes 6 (.reg .d)
  | .res6E => .cbRes 6 (.reg .e)
  | .res6H => .cbRes 6 (.reg .h)
  | .res6L => .cbRes 6 (.reg .l)
  | .res6IndHl => .cbRes 6 .indHl
  | .res6A => .cbRes 6 (.reg .a)
  | .res7B => .cbRes 7 (.reg .b)
  | .res7C => .cbRes 7 (.reg .c)
  | .res7D => .cbRes 7 (.reg .d)
  | .res7E => .cbRes 7 (.reg .e)
  | .res7H => .cbRes 7 (.reg .h)
  | .res7L => .cbRes 7 (.reg .l)
  | .res7IndHl => .cbRes 7 .indHl
  | .res7A => .cbRes 7 (.reg .a)
  | .set0B => .cbSet 0 (.reg .b)
  | .set0C => .cbSet 0 (.reg .c)
  | .set0D => .cbSet 0 (.reg .d)
  | .set0E => .cbSet 0 (.reg .e)
  | .set0H => .cbSet 0 (.reg .h)
  | .set0L => .cbSet 0 (.reg .l)
  | .set0IndHl => .cbSet 0 .indHl
  | .set0A => .cbSet 0 (.reg .a)
  | .set1B => .cbSet 1 (.reg .b)
  | .set1C => .cbSet 1 (.reg .c)
  | .set1D => .cbSet 1 (.reg .d)
  | .set1E => .cbSet 1 (.reg .e)
  | .set1H => .cbSet 1 (.reg .h)
  | .set1L => .cbSet 1 (.reg .l)
  | .set1IndHl => .cbSet 1 .indHl
  | .set1A => .cbSet 1 (.reg .a)
  | .set2B => .cbSet 2 (.reg .b)
  | .set2C => .cbSet 2 (.reg .c)
  | .set2D => .cbSet 2 (.reg .d)
  | .set2E => .cbSet 2 (.reg .e)
  | .set2H => .cbSet 2 (.reg .h)
  | .set2L => .cbSet 2 (.reg .l)
  | .set2IndHl => .cbSet 2 .indHl
  | .set2A => .cbSet 2 (.reg .a)
  | .set3B => .cbSet 3 (.reg .b)
  | .set3C => .cbSet 3 (.reg .c)
  | .set3D => .cbSet 3 (.reg .d)
  | .set3E => .cbSet 3 (.reg .e)
  | .set3H => .cbSet 3 (.reg .h)
  | .set3L => .cbSet 3 (.reg .l)
  | .set3IndHl => .cbSet 3 .indHl
  | .set3A => .cbSet 3 (.reg .a)
  | .set4B => .cbSet 4 (.reg .b)
  | .set4C => .cbSet 4 (.reg .c)
  | .set4D => .cbSet 4 (.reg .d)
  | .set4E => .cbSet 4 (.reg .e)
  | .set4H => .cbSet 4 (.reg .h)
  | .set4L => .cbSet 4 (.reg .l)
  | .set4IndHl => .cbSet 4 .indHl
  | .set4A => .cbSet 4 (.reg .a)
  | .set5B => .cbSet 5 (.reg .b)
  | .set5C => .cbSet 5 (.reg .c)
  | .set5D => .cbSet 5 (.reg .d)
  | .set5E => .cbSet 5 (.reg .e)
  | .set5H => .cbSet 5 (.reg .h)
  | .set5L => .cbSet 5 (.reg .l)
  | .set5IndHl => .cbSet 5 .indHl
  | .set5A => .cbSet 5 (.reg .a)
  | .set6B => .cbSet 6 (.reg .b)
  | .set6C => .cbSet 6 (.reg .c)
  | .set6D => .cbSet 6 (.reg .d)
  | .set6E => .cbSet 6 (.reg .e)
  | .set6H => .cbSet 6 (.reg .h)
  | .set6L => .cbSet 6 (.reg .l)
  | .set6IndHl => .cbSet 6 .indHl
  | .set6A => .cbSet 6 (.reg .a)
  | .set7B => .cbSet 7 (.reg .b)
  | .set7C => .cbSet 7 (.reg .c)
  | .set7D => .cbSet 7 (.reg .d)
  | .set7E => .cbSet 7 (.reg .e)
  | .set7H => .cbSet 7 (.reg .h)
  | .set7L => .cbSet 7 (.reg .l)
  | .set7IndHl => .cbSet 7 .indHl
  | .set7A => .cbSet 7 (.reg .a)

/-- The form of an instruction, with the prefix 0xCB read as the instruction its second byte selects
(R373). -/
def Form.unprefixed : Form → Form
  | .prefixed op2 => formOf (decodeCb op2)
  | f => f

/-- The two bytes a 16-bit store to `a` reaches (R87). -/
def wordAt (a : Word) : List Word := [a, a + 1]

/-- The address of an operand's byte in memory, if it is the byte at HL (R301). -/
def Operand.stored (z : Operand) (s : State) : List Word :=
  match z with
  | .reg _ => []
  | .indHl => [s.hl]

/-- The addresses a form stores to, one for each byte, computed as its meaning computes them from the
state its operands are read in (R100). A form that is not named stores nothing. -/
def Form.storedTo (f : Form) (s : State) : List Word :=
  match f with
  | .ldMemReg _ | .ldMemImm _ | .storeAStep _ | .incMem | .decMem => [s.hl]
  | .storeA m => [m.addr s]
  | .storeSp nn => wordAt nn
  | .cbRot _ z | .cbRes _ z | .cbSet _ z => z.stored s
  | .push _ | .call _ | .rst _ => wordAt (s.cpu.sp - 2)
  | .callIf cc _ => if s.cond cc then wordAt (s.cpu.sp - 2) else []
  | _ => []

/-- The addresses an instruction stores to. -/
def storedTo (i : Instr) (s : State) : List Word := (formOf i).unprefixed.storedTo s

/-- The form writes F: its Flags field is not `----` (R34). -/
def Form.writesF : Form → Bool
  | .ldHlSp _ | .addSp _ | .aluReg _ _ | .aluMem _ | .aluImm _ _ | .addHl _ => true
  | .incReg _ | .decReg _ | .incMem | .decMem | .daa | .cpl | .scf | .ccf | .rotA _ => true
  | .cbRot _ _ | .cbBit _ _ | .pop .af => true
  | _ => false

/-- The form writes SP (R39). -/
def Form.writesSp : Form → Bool
  | .ldPairImm .sp _ | .ldSpHl | .incPair .sp | .decPair .sp | .addSp _ | .push _ | .pop _ => true
  | .call _ | .callIf _ _ | .ret | .retIf _ | .reti | .rst _ => true
  | _ => false

/-- The form writes PC beyond the fetch of its own bytes (46_control.md). -/
def Form.writesPc : Form → Bool
  | .jp _ | .jpIf _ _ | .jpHl | .jr _ | .jrIf _ _ | .call _ | .callIf _ _ => true
  | .ret | .retIf _ | .reti | .rst _ => true
  | _ => false

/-- The next `n` bytes at PC, fetched one at a time (R88), and the state with PC past them. -/
def State.takeBytes : Nat → State → List Byte × State
  | 0, s => ([], s)
  | n + 1, s =>
    let (v, t) := s.fetch8
    let (vs, u) := State.takeBytes n t
    (v :: vs, u)

/-- What a step does after the instruction `i` has been fetched (R379, R380, R390): `exec`, the
count-down, the PPU's tick by the instruction's dots, the external posts. -/
def runFetched (i : Instr) (s : State) : Result :=
  match exec i s with
  | .next t => .next (State.tick t.cycles t.countDown).takePosts
  | .fault r => .fault r
  | .refused r => .refused r

/-- The step that begins in `s` executes an instruction: it is neither an idle halted step nor an
interrupt entry (R371). -/
abbrev State.executes (s : State) : Prop :=
  (s.cpu.halted = true → s.pend ≠ 0) ∧ (s.cpu.ime = true → s.pend = 0)

/-- `s` with A, F and the dots of an ALU instruction. -/
def State.afterAlu (s : State) (a : Byte) (z n h c : Bool) (dots : Nat) : State :=
  { s with cpu.a := a, cpu.f := flagByte z n h c, cycles := dots }

/-- The pixel that OAM entry `k` would draw at column `x` of line `ly`, if it draws one there
(R470 to R473). -/
def State.spriteAt (s : State) (prio : List Prio) (ly x k : Nat) : Option Rgb :=
  let o := s.sprite k
  let px := x + 8 - o.x.toNat
  let ci := colorIndex (s.spriteRow o ly).1 (s.spriteRow o ly).2 (if bit o.attr 5 then 7 - px else px)
  if o.onLine s.spriteHeight ly && decide (o.x.toNat ≤ x + 8) && decide (x < o.x.toNat) &&
      !suppressed (prio.getD x ⟨false, 0⟩) o.attr ci then
    some (s.objColor o.attr ci)
  else none

/-- Two digits in binary-coded decimal. -/
def bcd (n : Nat) : Byte := BitVec.ofNat 8 (16 * (n / 10 % 10) + n % 10)

/-- The invariants of the machine (R33, R59, R61, R62, R64, R65, R68, R426). -/
structure State.Good (s : State) : Prop where
  flags  : s.flagsOk
  ppu    : s.ppuOk
  memory : s.memOk
  screen : s.screenOk
  hdma   : s.hdmaOk

end Sys2Proof.Machine
end

