-- ==== Sys2Proof/Certificates/Slice0/Obligations.lean ====
section
/-! DEFINITION. The statements for the provers. In every statement of an instruction's meaning the
state `s` has PC past the instruction's bytes (R37), as `exec` is given it; `StepRunsDecoded` says that
a step gives it so. `{ s with … }` is the frame: every field not named keeps its value, so every byte
of memory, register, flag and special register not named is unchanged. `s.touch a` is `s` but for the
model's own record of device bytes drawn (`BusReads`). -/

open Sys2Proof Sys2Proof.Machine

/-! ## Encoding -/

/-- Decoding an encoded instruction gives it back, whatever bytes follow (R131, R132, R142, R143). -/
def Obligations.DecodeEncode : Prop :=
  ∀ (i : Instr) (rest : List Byte), wellFormed i = true → decode (encode i ++ rest) = .ok (i, rest)

/-- Whatever bytes decode to an instruction are its encoding: each word has one meaning. -/
def Obligations.EncodeDecode : Prop :=
  ∀ (bytes rest : List Byte) (i : Instr), decode bytes = .ok (i, rest) →
    wellFormed i = true ∧ bytes = encode i ++ rest

/-- The length from the first byte (R131, R154), and decoding total on every list that is long enough:
every first byte, and every byte after the prefix, is an instruction (R150, R151). -/
def Obligations.DecodeTotal : Prop :=
  ∀ (op : Byte) (rest : List Byte),
    instrLength op =
      (if op = 0xCB then 2
       else if op ∈ [0x01, 0x08, 0x11, 0x21, 0x31, 0xC2, 0xC3, 0xC4, 0xCA, 0xCC, 0xCD, 0xD2, 0xD4,
           0xDA, 0xDC, 0xEA, 0xFA] then 3
       else if op ∈ [0x06, 0x0E, 0x10, 0x16, 0x18, 0x1E, 0x20, 0x26, 0x28, 0x2E, 0x30, 0x36, 0x38,
           0x3E, 0xC6, 0xCE, 0xD6, 0xDE, 0xE0, 0xE6, 0xE8, 0xEE, 0xF0, 0xF6, 0xF8, 0xFE] then 2
       else 1) ∧
    (instrLength op ≤ rest.length + 1 →
      ∃ i, decode (op :: rest) = .ok (i, (op :: rest).drop (instrLength op))) ∧
    (rest.length + 1 < instrLength op → decode (op :: rest) = .error .truncated)

/-- A few words written out from the spec: LD A,5; ADD A,3; JR -2; CALL 0x1234 (low byte first);
BIT 0,A; SET 7,(HL); LD (nn),SP; a byte with no instruction. -/
def Obligations.SampleWords : Prop :=
  decode [0x3E, 0x05] = .ok (.ldAN 5, []) ∧
  decode [0xC6, 0x03] = .ok (.addAN 3, []) ∧
  decode [0x18, 0xFE] = .ok (.jrE (-2), []) ∧
  decode [0xCD, 0x34, 0x12] = .ok (.callNn 0x1234, []) ∧
  decode [0xCB, 0x47] = .ok (.bit0A, []) ∧
  decode [0xCB, 0xFE] = .ok (.set7IndHl, []) ∧
  decode [0x08, 0x00, 0xC1, 0x55] = .ok (.ldIndNnSp 0xC100, [0x55]) ∧
  decode [0xD3, 0x00] = .ok (.illegalD3, [0x00])

/-- The prefix 0xCB (R373): with the byte `op2` after it, it completes exactly as the CB instruction
that byte selects, with that instruction's dots. -/
def Obligations.PrefixRunsCbInstruction : Prop :=
  ∀ (op2 : Byte) (s : State), ∃ t, exec (.prefixCb op2) s = .next t ∧ exec (decodeCb op2) s = .next t

/-! ## Registers and flags -/

/-- The eight registers and the pair views (R31, R32), and the F register (R33, R36: Z, N, H and C in
bits 7 to 4, bits 3:0 zero): a register reads back what was written and nothing else changes; a pair is
its two halves, and writing it writes both and nothing else; AF written as a stack pair drops the low
nibble. -/
def Obligations.RegisterViews : Prop :=
  ∀ (s : State) (r q : Reg8) (p : Pair) (v : Byte) (w : Word) (z n h c : Bool),
    flagByte z n h c = (if z then 0x80 else 0) + (if n then 0x40 else 0) + (if h then 0x20 else 0) +
      (if c then 0x10 else 0) ∧
    flagZ (flagByte z n h c) = z ∧ flagN (flagByte z n h c) = n ∧ flagH (flagByte z n h c) = h ∧
    flagC (flagByte z n h c) = c ∧ flagByte z n h c &&& 0x0F = 0 ∧
    (s.setReg r v).reg q = (if q = r then v else s.reg q) ∧
    s.setReg r v = { s with cpu := (s.setReg r v).cpu } ∧
    (s.setReg r v).cpu = { (s.setReg r v).cpu with
      f := s.cpu.f, sp := s.cpu.sp, pc := s.cpu.pc, ime := s.cpu.ime, imeSched := s.cpu.imeSched,
      halted := s.cpu.halted, holdPc := s.cpu.holdPc } ∧
    (s.setPair p w).pair p = w ∧
    s.bc.toNat = s.cpu.b.toNat * 256 + s.cpu.c.toNat ∧
    s.de.toNat = s.cpu.d.toNat * 256 + s.cpu.e.toNat ∧
    s.hl.toNat = s.cpu.h.toNat * 256 + s.cpu.l.toNat ∧
    s.af.toNat = s.cpu.a.toNat * 256 + s.cpu.f.toNat ∧
    (s.pair .bc, s.pair .de, s.pair .hl, s.pair .sp) = (s.bc, s.de, s.hl, s.cpu.sp) ∧
    (s.stackPair .bc, s.stackPair .de, s.stackPair .hl, s.stackPair .af) = (s.bc, s.de, s.hl, s.af) ∧
    (hi w).toNat = w.toNat / 256 ∧ (lo w).toNat = w.toNat % 256 ∧
    s.setPair .bc w = { s with cpu.b := hi w, cpu.c := lo w } ∧
    s.setPair .de w = { s with cpu.d := hi w, cpu.e := lo w } ∧
    s.setPair .hl w = { s with cpu.h := hi w, cpu.l := lo w } ∧
    s.setPair .sp w = { s with cpu.sp := w } ∧
    s.setStackPair .bc w = { s with cpu.b := hi w, cpu.c := lo w } ∧
    s.setStackPair .de w = { s with cpu.d := hi w, cpu.e := lo w } ∧
    s.setStackPair .hl w = { s with cpu.h := hi w, cpu.l := lo w } ∧
    s.setStackPair .af w = { s with cpu.a := hi w, cpu.f := lo w &&& 0xF0 }

/-! ## Loads -/

/-- LD r,r', LD r,n and LD r,(HL) (R201 to R203): the encodings, the register written, the dots;
nothing else changes. The address of LD H,(HL) and LD L,(HL) is the old HL. -/
def Obligations.LoadRegister : Prop :=
  ∀ (s : State) (dst r : Reg8) (n : Byte),
    encode (iLdRegReg dst r) = [BitVec.ofNat 8 (0x40 + 8 * dst.code + r.code)] ∧
    exec (iLdRegReg dst r) s = .next { s.setReg dst (s.reg r) with cycles := 4 } ∧
    encode (iLdRegImm dst n) = [BitVec.ofNat 8 (0x06 + 8 * dst.code), n] ∧
    exec (iLdRegImm dst n) s = .next { s.setReg dst n with cycles := 8 } ∧
    encode (iLdRegMem dst) = [BitVec.ofNat 8 (0x46 + 8 * dst.code)] ∧
    exec (iLdRegMem dst) s = .next { (s.touch s.hl).setReg dst (s.peek s.hl) with cycles := 8 }

/-- LD (HL),r and LD (HL),n (R204, R205): one store at HL, of the register as it is before. -/
def Obligations.StoreAtHl : Prop :=
  ∀ (s : State) (r : Reg8) (n : Byte),
    encode (iLdMemReg r) = [BitVec.ofNat 8 (0x70 + r.code)] ∧
    exec (iLdMemReg r) s = .next { s.set8 s.hl (s.reg r) with cycles := 8 } ∧
    encode (.ldIndHlN n) = [0x36, n] ∧
    exec (.ldIndHlN n) s = .next { s.set8 s.hl n with cycles := 12 }

/-- The loads of A (R206, R207, R210, R212, R214, R216, R217): A from the byte at the address, and HL
moved by one, modulo 0x10000, after LD A,(HL+) and LD A,(HL-). -/
def Obligations.LoadA : Prop :=
  ∀ (s : State) (n : Byte) (nn : Word),
    let loaded (a : Word) (dots : Nat) : State := { s.touch a with cpu.a := s.peek a, cycles := dots }
    exec .ldAIndBc s = .next (loaded s.bc 8) ∧
    exec .ldAIndDe s = .next (loaded s.de 8) ∧
    exec (.ldAIndNn nn) s = .next (loaded nn 16) ∧
    exec .ldAIndC s = .next (loaded (0xFF00 + s.cpu.c.setWidth 16) 8) ∧
    exec (.ldhAIndN n) s = .next (loaded (0xFF00 + n.setWidth 16) 12) ∧
    exec .ldAIndHlInc s = .next ((loaded s.hl 8).setPair .hl (s.hl + 1)) ∧
    exec .ldAIndHlDec s = .next ((loaded s.hl 8).setPair .hl (s.hl - 1)) ∧
    encode .ldAIndBc = [0x0A] ∧ encode .ldAIndDe = [0x1A] ∧
    encode (.ldAIndNn nn) = [0xFA, lo nn, hi nn] ∧ encode .ldAIndC = [0xF2] ∧
    encode (.ldhAIndN n) = [0xF0, n] ∧ encode .ldAIndHlInc = [0x2A] ∧ encode .ldAIndHlDec = [0x3A]

/-- The stores of A (R208, R209, R211, R213, R215, R218, R219): one store at the address, and HL moved
by one, modulo 0x10000, after LD (HL+),A and LD (HL-),A. -/
def Obligations.StoreA : Prop :=
  ∀ (s : State) (n : Byte) (nn : Word),
    let stored (a : Word) (dots : Nat) : State := { s.set8 a s.cpu.a with cycles := dots }
    exec .ldIndBcA s = .next (stored s.bc 8) ∧
    exec .ldIndDeA s = .next (stored s.de 8) ∧
    exec (.ldIndNnA nn) s = .next (stored nn 16) ∧
    exec .ldIndCA s = .next (stored (0xFF00 + s.cpu.c.setWidth 16) 8) ∧
    exec (.ldhIndNA n) s = .next (stored (0xFF00 + n.setWidth 16) 12) ∧
    exec .ldIndHlIncA s = .next ((stored s.hl 8).setPair .hl (s.hl + 1)) ∧
    exec .ldIndHlDecA s = .next ((stored s.hl 8).setPair .hl (s.hl - 1)) ∧
    encode .ldIndBcA = [0x02] ∧ encode .ldIndDeA = [0x12] ∧
    encode (.ldIndNnA nn) = [0xEA, lo nn, hi nn] ∧ encode .ldIndCA = [0xE2] ∧
    encode (.ldhIndNA n) = [0xE0, n] ∧ encode .ldIndHlIncA = [0x22] ∧ encode .ldIndHlDecA = [0x32]

/-- The 16-bit loads (R200, R220 to R224). LD HL,SP+e and ADD SP,e add the sign-extended byte, clear Z
and N, and take H and C from the unsigned low bytes. -/
def Obligations.Load16 : Prop :=
  ∀ (s : State) (p : Pair) (e : Byte) (nn : Word),
    let sum := s.cpu.sp + e.signExtend 16
    let f := flagByte false false (decide (s.cpu.sp.toNat % 16 + e.toNat % 16 > 0xF))
      (decide (s.cpu.sp.toNat % 256 + e.toNat > 0xFF))
    encode (iLdPairImm p nn) = [BitVec.ofNat 8 (0x01 + 16 * p.code), lo nn, hi nn] ∧
    exec (iLdPairImm p nn) s = .next { s.setPair p nn with cycles := 12 } ∧
    encode (.ldIndNnSp nn) = [0x08, lo nn, hi nn] ∧
    exec (.ldIndNnSp nn) s =
      .next { (s.set8 nn (lo s.cpu.sp)).set8 (nn + 1) (hi s.cpu.sp) with cycles := 20 } ∧
    encode .ldSpHl = [0xF9] ∧
    exec .ldSpHl s = .next { s with cpu.sp := s.hl, cycles := 8 } ∧
    encode (.ldHlSpE e) = [0xF8, e] ∧
    exec (.ldHlSpE e) s = .next { s.setPair .hl sum with cpu.f := f, cycles := 12 } ∧
    encode (.addSpE e) = [0xE8, e] ∧
    exec (.addSpE e) s = .next { s with cpu.sp := sum, cpu.f := f, cycles := 16 }

/-! ## The 8-bit ALU -/

/-- ADD and ADC on a register, the byte at HL and an immediate (R241, R244 to R249): the sum with the
carry-in modulo 256, Z from it, N = 0, H the carry out of bit 3, C the carry out of bit 7. -/
def Obligations.AddAndAdc : Prop :=
  ∀ (s : State) (r : Reg8) (n : Byte),
    let sum (t : State) (v : Byte) (cin dots : Nat) : Result :=
      let a := s.cpu.a
      let res := a + v + BitVec.ofNat 8 cin
      .next (t.afterAlu res (res == 0) false (decide (a.toNat % 16 + v.toNat % 16 + cin > 0xF))
        (decide (a.toNat + v.toNat + cin > 0xFF)) dots)
    let fc := if flagC s.cpu.f then 1 else 0
    exec (iAluReg .add r) s = sum s (s.reg r) 0 4 ∧
    exec (iAluMem .add) s = sum (s.touch s.hl) (s.peek s.hl) 0 8 ∧
    exec (iAluImm .add n) s = sum s n 0 8 ∧
    exec (iAluReg .adc r) s = sum s (s.reg r) fc 4 ∧
    exec (iAluMem .adc) s = sum (s.touch s.hl) (s.peek s.hl) fc 8 ∧
    exec (iAluImm .adc n) s = sum s n fc 8 ∧
    ∀ k ∈ [AluOp.add, .adc], encode (iAluReg k r) = [BitVec.ofNat 8 (0x80 + 8 * aluCode k + r.code)] ∧
      encode (iAluMem k) = [BitVec.ofNat 8 (0x86 + 8 * aluCode k)] ∧
      encode (iAluImm k n) = [BitVec.ofNat 8 (0xC6 + 8 * aluCode k), n]

/-- SUB, SBC and CP on a register, the byte at HL and an immediate (R242, R250 to R255, R265 to R267):
the difference with the borrow-in modulo 256, Z from it, N = 1, H the borrow out of bit 4, C the borrow
out of bit 7. CP leaves A. -/
def Obligations.SubSbcAndCp : Prop :=
  ∀ (s : State) (r : Reg8) (n : Byte),
    let diff (store : Bool) (t : State) (v : Byte) (cin dots : Nat) : Result :=
      let a := s.cpu.a
      let res := a - v - BitVec.ofNat 8 cin
      .next (t.afterAlu (if store then res else a) (res == 0) true
        (decide (a.toNat % 16 < v.toNat % 16 + cin)) (decide (a.toNat < v.toNat + cin)) dots)
    let fc := if flagC s.cpu.f then 1 else 0
    exec (iAluReg .sub r) s = diff true s (s.reg r) 0 4 ∧
    exec (iAluMem .sub) s = diff true (s.touch s.hl) (s.peek s.hl) 0 8 ∧
    exec (iAluImm .sub n) s = diff true s n 0 8 ∧
    exec (iAluReg .sbc r) s = diff true s (s.reg r) fc 4 ∧
    exec (iAluMem .sbc) s = diff true (s.touch s.hl) (s.peek s.hl) fc 8 ∧
    exec (iAluImm .sbc n) s = diff true s n fc 8 ∧
    exec (iAluReg .cp r) s = diff false s (s.reg r) 0 4 ∧
    exec (iAluMem .cp) s = diff false (s.touch s.hl) (s.peek s.hl) 0 8 ∧
    exec (iAluImm .cp n) s = diff false s n 0 8 ∧
    ∀ k ∈ [AluOp.sub, .sbc, .cp],
      encode (iAluReg k r) = [BitVec.ofNat 8 (0x80 + 8 * aluCode k + r.code)] ∧
      encode (iAluMem k) = [BitVec.ofNat 8 (0x86 + 8 * aluCode k)] ∧
      encode (iAluImm k n) = [BitVec.ofNat 8 (0xC6 + 8 * aluCode k), n]

/-- AND, XOR and OR on a register, the byte at HL and an immediate (R243, R256 to R264): Z from the
result, N = 0, H = 1 for AND only, C = 0. -/
def Obligations.AndXorOr : Prop :=
  ∀ (s : State) (r : Reg8) (n : Byte),
    let res (t : State) (a : Byte) (h : Bool) (dots : Nat) : Result :=
      .next (t.afterAlu a (a == 0) false h false dots)
    let m := s.peek s.hl
    exec (iAluReg .and r) s = res s (s.cpu.a &&& s.reg r) true 4 ∧
    exec (iAluMem .and) s = res (s.touch s.hl) (s.cpu.a &&& m) true 8 ∧
    exec (iAluImm .and n) s = res s (s.cpu.a &&& n) true 8 ∧
    exec (iAluReg .xor r) s = res s (s.cpu.a ^^^ s.reg r) false 4 ∧
    exec (iAluMem .xor) s = res (s.touch s.hl) (s.cpu.a ^^^ m) false 8 ∧
    exec (iAluImm .xor n) s = res s (s.cpu.a ^^^ n) false 8 ∧
    exec (iAluReg .or r) s = res s (s.cpu.a ||| s.reg r) false 4 ∧
    exec (iAluMem .or) s = res (s.touch s.hl) (s.cpu.a ||| m) false 8 ∧
    exec (iAluImm .or n) s = res s (s.cpu.a ||| n) false 8 ∧
    ∀ k ∈ [AluOp.and, .xor, .or],
      encode (iAluReg k r) = [BitVec.ofNat 8 (0x80 + 8 * aluCode k + r.code)] ∧
      encode (iAluMem k) = [BitVec.ofNat 8 (0x86 + 8 * aluCode k)] ∧
      encode (iAluImm k n) = [BitVec.ofNat 8 (0xC6 + 8 * aluCode k), n]

/-! ## 16-bit arithmetic, increments, the instructions on A and F -/

/-- ADD HL,rr, INC rr and DEC rr (R276 to R278). ADD HL,rr keeps Z, clears N, and takes H and C from
the carries out of bits 11 and 15; INC rr and DEC rr touch no flag; all wrap modulo 0x10000. -/
def Obligations.PairArithmetic : Prop :=
  ∀ (s : State) (p : Pair),
    encode (iAddHl p) = [BitVec.ofNat 8 (0x09 + 16 * p.code)] ∧
    exec (iAddHl p) s =
      .next { s.setPair .hl (s.hl + s.pair p) with
        cpu.f := flagByte (flagZ s.cpu.f) false
          (decide (s.hl.toNat % 4096 + (s.pair p).toNat % 4096 > 0xFFF))
          (decide (s.hl.toNat + (s.pair p).toNat > 0xFFFF)),
        cycles := 8 } ∧
    encode (iIncPair p) = [BitVec.ofNat 8 (0x03 + 16 * p.code)] ∧
    exec (iIncPair p) s = .next { s.setPair p (s.pair p + 1) with cycles := 8 } ∧
    encode (iDecPair p) = [BitVec.ofNat 8 (0x0B + 16 * p.code)] ∧
    exec (iDecPair p) s = .next { s.setPair p (s.pair p - 1) with cycles := 8 }

/-- INC and DEC of a register and of the byte at HL (R279 to R282): Z from the result, N, H from the
low nibble, C kept; the memory forms read once and write once at HL. -/
def Obligations.IncDec : Prop :=
  ∀ (s : State) (r : Reg8),
    let fInc (v : Byte) : Byte := flagByte (v + 1 == 0) false (v &&& 0x0F == 0x0F) (flagC s.cpu.f)
    let fDec (v : Byte) : Byte := flagByte (v - 1 == 0) true (v &&& 0x0F == 0) (flagC s.cpu.f)
    let m := s.peek s.hl
    encode (iIncReg r) = [BitVec.ofNat 8 (0x04 + 8 * r.code)] ∧
    exec (iIncReg r) s = .next { s.setReg r (s.reg r + 1) with cpu.f := fInc (s.reg r), cycles := 4 } ∧
    encode (iDecReg r) = [BitVec.ofNat 8 (0x05 + 8 * r.code)] ∧
    exec (iDecReg r) s = .next { s.setReg r (s.reg r - 1) with cpu.f := fDec (s.reg r), cycles := 4 } ∧
    encode .incIndHl = [0x34] ∧
    exec .incIndHl s =
      .next { (s.touch s.hl).set8 s.hl (m + 1) with cpu.f := fInc m, cycles := 12 } ∧
    encode .decIndHl = [0x35] ∧
    exec .decIndHl s =
      .next { (s.touch s.hl).set8 s.hl (m - 1) with cpu.f := fDec m, cycles := 12 }

/-- DAA, CPL, SCF, CCF and NOP (R291 to R295). DAA is one adjustment, added after an addition and
subtracted after a subtraction; its C never falls. -/
def Obligations.DecimalAndFlagInstructions : Prop :=
  ∀ s : State,
    let a := s.cpu.a
    let f := s.cpu.f
    let high := flagC f || (!flagN f && decide (a.toNat > 0x99))
    let low := flagH f || (!flagN f && decide (a.toNat % 16 > 9))
    let adjust : Byte := (if high then 0x60 else 0) + (if low then 0x06 else 0)
    let res := if flagN f then a - adjust else a + adjust
    exec .daa s = .next (s.afterAlu res (res == 0) (flagN f) false high 4) ∧
    exec .cpl s = .next (s.afterAlu (~~~a) (flagZ f) true true (flagC f) 4) ∧
    exec .scf s = .next (s.afterAlu a (flagZ f) false false true 4) ∧
    exec .ccf s = .next (s.afterAlu a (flagZ f) false false (!flagC f) 4) ∧
    exec .nop s = .next { s with cycles := 4 } ∧
    encode .daa = [0x27] ∧ encode .cpl = [0x2F] ∧ encode .scf = [0x37] ∧ encode .ccf = [0x3F] ∧
    encode .nop = [0x00]

/-- What DAA is for (R291): after the addition, or the subtraction, of two numbers of two decimal
digits, it gives the digits of the sum, or of the difference, modulo 100, and C the carry or borrow. -/
def Obligations.DaaMakesDecimal : Prop :=
  ∀ (s t u : State) (x y : Nat), x < 100 → y < 100 → s.cpu.a = bcd x → s.cpu.b = bcd y →
    (exec .addAB s = .next t → exec .daa t = .next u →
      u.cpu.a = bcd ((x + y) % 100) ∧ flagC u.cpu.f = decide (100 ≤ x + y)) ∧
    (exec .subAB s = .next t → exec .daa t = .next u →
      u.cpu.a = bcd ((100 + x - y) % 100) ∧ flagC u.cpu.f = decide (x < y))

/-! ## Rotates, shifts and bits -/

/-- The eight rotate and shift functions bit by bit, with their carry out (R302). -/
def Obligations.RotateFunctions : Prop :=
  ∀ (v : Byte) (c : Bool) (i : Nat), i < 8 →
    bit (rotRes .rlc v c) i = bit v ((i + 7) % 8) ∧
    bit (rotRes .rrc v c) i = bit v ((i + 1) % 8) ∧
    bit (rotRes .rl v c) i = (if i = 0 then c else bit v (i - 1)) ∧
    bit (rotRes .rr v c) i = (if i = 7 then c else bit v (i + 1)) ∧
    bit (rotRes .sla v c) i = (if i = 0 then false else bit v (i - 1)) ∧
    bit (rotRes .sra v c) i = (if i = 7 then bit v 7 else bit v (i + 1)) ∧
    bit (rotRes .swap v c) i = bit v ((i + 4) % 8) ∧
    bit (rotRes .srl v c) i = (if i = 7 then false else bit v (i + 1)) ∧
    (∀ k ∈ [RotOp.rlc, .rl, .sla], rotCarry k v = bit v 7) ∧
    (∀ k ∈ [RotOp.rrc, .rr, .sra, .srl], rotCarry k v = bit v 0) ∧
    rotCarry .swap v = false

/-- RLCA, RRCA, RLA and RRA (R331 to R334): the rotate of A, with Z forced to 0. -/
def Obligations.RotateA : Prop :=
  ∀ s : State,
    let res (k : RotOp) : Result :=
      .next (s.afterAlu (rotRes k s.cpu.a (flagC s.cpu.f)) false false false (rotCarry k s.cpu.a) 4)
    exec .rlca s = res .rlc ∧ exec .rrca s = res .rrc ∧ exec .rla s = res .rl ∧
    exec .rra s = res .rr ∧
    encode .rlca = [0x07] ∧ encode .rrca = [0x0F] ∧ encode .rla = [0x17] ∧ encode .rra = [0x1F]

/-- The CB rotates and shifts of a register (R302, R303 to R317): the function of R302, Z from the
result, N = H = 0, C the carry out. -/
def Obligations.CbRotateRegister : Prop :=
  ∀ (s : State) (k : RotOp) (r : Reg8),
    let res := rotRes k (s.reg r) (flagC s.cpu.f)
    encode (iCbRot k (.reg r)) = [0xCB, BitVec.ofNat 8 (8 * rotCode k + r.code)] ∧
    exec (iCbRot k (.reg r)) s =
      .next { s.setReg r res with
        cpu.f := flagByte (res == 0) false false (rotCarry k (s.reg r)), cycles := 8 }

/-- The CB rotates and shifts of the byte at HL (R301, R302, R304 to R318): read once, written once. -/
def Obligations.CbRotateMemory : Prop :=
  ∀ (s : State) (k : RotOp),
    let m := s.peek s.hl
    let res := rotRes k m (flagC s.cpu.f)
    encode (iCbRot k .indHl) = [0xCB, BitVec.ofNat 8 (8 * rotCode k + 6)] ∧
    exec (iCbRot k .indHl) s =
      .next { (s.touch s.hl).set8 s.hl res with
        cpu.f := flagByte (res == 0) false false (rotCarry k m), cycles := 16 }

/-- BIT b (R319, R320): Z where the bit is 0, N = 0, H = 1, C kept; the operand is only read. -/
def Obligations.BitTest : Prop :=
  ∀ (s : State) (b : Fin 8) (r : Reg8),
    encode (iBit b (.reg r)) = [0xCB, BitVec.ofNat 8 (0x40 + 8 * b.val + r.code)] ∧
    exec (iBit b (.reg r)) s =
      .next { s with
        cpu.f := flagByte (!(s.reg r).getLsbD b.val) false true (flagC s.cpu.f), cycles := 8 } ∧
    encode (iBit b .indHl) = [0xCB, BitVec.ofNat 8 (0x46 + 8 * b.val)] ∧
    exec (iBit b .indHl) s =
      .next { s.touch s.hl with
        cpu.f := flagByte (!(s.peek s.hl).getLsbD b.val) false true (flagC s.cpu.f), cycles := 12 }

/-- RES b and SET b (R321 to R324): one bit of the operand, no flag; the memory forms write even a
byte that does not change. `clearBit` and `putBit` change bit b only. -/
def Obligations.ResAndSet : Prop :=
  ∀ (s : State) (b : Fin 8) (r : Reg8) (v : Byte) (i : Nat),
    (i < 8 → bit (clearBit v b.val) i = (if i = b.val then false else bit v i)) ∧
    (i < 8 → bit (putBit v b.val) i = (if i = b.val then true else bit v i)) ∧
    exec (iRes b (.reg r)) s = .next { s.setReg r (clearBit (s.reg r) b.val) with cycles := 8 } ∧
    exec (iSet b (.reg r)) s = .next { s.setReg r (putBit (s.reg r) b.val) with cycles := 8 } ∧
    exec (iRes b .indHl) s =
      .next { (s.touch s.hl).set8 s.hl (clearBit (s.peek s.hl) b.val) with cycles := 16 } ∧
    exec (iSet b .indHl) s =
      .next { (s.touch s.hl).set8 s.hl (putBit (s.peek s.hl) b.val) with cycles := 16 } ∧
    encode (iRes b (.reg r)) = [0xCB, BitVec.ofNat 8 (0x80 + 8 * b.val + r.code)] ∧
    encode (iRes b .indHl) = [0xCB, BitVec.ofNat 8 (0x86 + 8 * b.val)] ∧
    encode (iSet b (.reg r)) = [0xCB, BitVec.ofNat 8 (0xC0 + 8 * b.val + r.code)] ∧
    encode (iSet b .indHl) = [0xCB, BitVec.ofNat 8 (0xC6 + 8 * b.val)]

/-! ## Control flow and the stack -/

/-- The jumps (R343 to R347) and their conditions (R137, R341), taken and not taken; a relative jump adds the sign-extended byte to the
PC past it, modulo 0x10000 (R38). -/
def Obligations.Jumps : Prop :=
  ∀ (s : State) (cc : Cond) (nn : Word) (e : Byte),
    let jumped (a : Word) (dots : Nat) : Result := .next { s with cpu.pc := a, cycles := dots }
    s.cond .nz = !s.cpu.f.getLsbD 7 ∧ s.cond .z = s.cpu.f.getLsbD 7 ∧
    s.cond .nc = !s.cpu.f.getLsbD 4 ∧ s.cond .c = s.cpu.f.getLsbD 4 ∧
    exec (.jpNn nn) s = jumped nn 16 ∧
    exec (iJpIf cc nn) s = (if s.cond cc then jumped nn 16 else .next { s with cycles := 12 }) ∧
    exec .jpHl s = jumped s.hl 4 ∧
    exec (.jrE e) s = jumped (s.cpu.pc + e.signExtend 16) 12 ∧
    exec (iJrIf cc e) s =
      (if s.cond cc then jumped (s.cpu.pc + e.signExtend 16) 12 else .next { s with cycles := 8 }) ∧
    encode (.jpNn nn) = [0xC3, lo nn, hi nn] ∧ encode .jpHl = [0xE9] ∧ encode (.jrE e) = [0x18, e] ∧
    encode (iJpIf cc nn) = [BitVec.ofNat 8 (0xC2 + 8 * cc.code), lo nn, hi nn] ∧
    encode (iJrIf cc e) = [BitVec.ofNat 8 (0x20 + 8 * cc.code), e]

/-- CALL, CALL cc and RST (R342, R348, R349, R353): SP falls by 2, the PC past the instruction is
stored at the new SP, low byte first, and PC is the target; not taken, nothing is pushed. -/
def Obligations.Calls : Prop :=
  ∀ (s : State) (cc : Cond) (y : Fin 8) (nn : Word),
    let sp := s.cpu.sp - 2
    let called (a : Word) (dots : Nat) : Result :=
      .next { ({ s with cpu.sp := sp }.set8 sp (lo s.cpu.pc)).set8 (sp + 1) (hi s.cpu.pc) with
        cpu.pc := a, cpu.sp := sp, cycles := dots }
    exec (.callNn nn) s = called nn 24 ∧
    exec (iCallIf cc nn) s = (if s.cond cc then called nn 24 else .next { s with cycles := 12 }) ∧
    exec (iRst y) s = called (BitVec.ofNat 16 (8 * y.val)) 16 ∧
    encode (.callNn nn) = [0xCD, lo nn, hi nn] ∧
    encode (iCallIf cc nn) = [BitVec.ofNat 8 (0xC4 + 8 * cc.code), lo nn, hi nn] ∧
    encode (iRst y) = [BitVec.ofNat 8 (0xC7 + 8 * y.val)]

/-- RET, RET cc and RETI (R342, R350 to R352): PC from the two bytes at SP, low byte first, SP up by 2;
RETI sets IME at once and cancels a pending EI; not taken, nothing is read. -/
def Obligations.Returns : Prop :=
  ∀ (s : State) (cc : Cond),
    let t := s.touch s.cpu.sp
    let u := t.touch (s.cpu.sp + 1)
    let back : Word := t.peek (s.cpu.sp + 1) ++ s.peek s.cpu.sp
    let returned (dots : Nat) : State :=
      { u with cpu.pc := back, cpu.sp := s.cpu.sp + 2, cycles := dots }
    exec .ret s = .next (returned 16) ∧
    exec (iRetIf cc) s = (if s.cond cc then .next (returned 20) else .next { s with cycles := 8 }) ∧
    exec .reti s = .next { returned 16 with cpu.ime := true, cpu.imeSched := 0 } ∧
    encode .ret = [0xC9] ∧ encode .reti = [0xD9] ∧
    encode (iRetIf cc) = [BitVec.ofNat 8 (0xC0 + 8 * cc.code)]

/-- PUSH and POP (R342, R354, R355): the pair at SP - 2, low byte first; POP AF drops the low nibble
of F. -/
def Obligations.PushAndPop : Prop :=
  ∀ (s : State) (p : StackPair),
    let sp := s.cpu.sp - 2
    let v := s.stackPair p
    let t := s.touch s.cpu.sp
    let w : Word := t.peek (s.cpu.sp + 1) ++ s.peek s.cpu.sp
    exec (iPush p) s =
      .next { ({ s with cpu.sp := sp }.set8 sp (lo v)).set8 (sp + 1) (hi v) with
        cpu.sp := sp, cycles := 16 } ∧
    exec (iPop p) s =
      .next { { t.touch (s.cpu.sp + 1) with cpu.sp := s.cpu.sp + 2 }.setStackPair p w with
        cycles := 12 } ∧
    (s.setStackPair p w).stackPair p = (if p = .af then w &&& 0xFFF0 else w) ∧
    encode (iPush p) = [BitVec.ofNat 8 (0xC5 + 16 * p.code)] ∧
    encode (iPop p) = [BitVec.ofNat 8 (0xC1 + 16 * p.code)]

/-- PUSH then POP (R355): with the two bytes below SP in plain writable memory, the pair popped is the
pair pushed, without the low nibble where AF is popped, and SP is back. -/
def Obligations.PopAfterPush : Prop :=
  ∀ (s t : State) (p q : StackPair), s.memOk →
    (∀ a ∈ wordAt (s.cpu.sp - 2), (route a).storage = true ∧ ∀ n, route a ≠ .cart n) →
    exec (iPush p) s = .next t →
    ∃ u, exec (iPop q) t = .next u ∧ u.cpu.sp = s.cpu.sp ∧
      u.stackPair q = (if q = .af then s.stackPair p &&& 0xFFF0 else s.stackPair p) ∧ u.mem = t.mem

/-! ## EI, DI, HALT, STOP and the bytes with no instruction -/

/-- EI, DI and HALT (R374 to R376). EI only starts the count-down; DI acts at once and cancels it;
HALT halts, but with `HALT_BUG`, IME = 0 and an enabled request pending: there it makes the next fetch
keep PC (the reading of assumption 11, the model's choice). -/
def Obligations.InterruptControl : Prop :=
  ∀ s : State,
    exec .ei s = .next { s with cpu.imeSched := 2, cycles := 4 } ∧
    exec .di s = .next { s with cpu.ime := false, cpu.imeSched := 0, cycles := 4 } ∧
    (¬(s.params.haltBug = true ∧ s.cpu.ime = false ∧ s.irq.enable &&& s.irq.flags ≠ 0) →
      exec .halt s = .next { s with cpu.halted := true, cycles := 4 }) ∧
    (s.params.haltBug = true ∧ s.cpu.ime = false ∧ s.irq.enable &&& s.irq.flags ≠ 0 →
      exec .halt s = .next { s with cpu.holdPc := true, cycles := 4 }) ∧
    encode .ei = [0xFB] ∧ encode .di = [0xF3] ∧ encode .halt = [0x76]

/-- STOP (R377) and the eleven bytes with no instruction: no-operations with the parameters at
their defaults, in 4 and in `ILLEGAL_CYCLES` dots; refusals with the parameter at `refuse`. -/
def Obligations.StopAndIllegal : Prop :=
  ∀ (s : State) (skipped : Byte) (y : Fin 11),
    (s.params.stopMode = .nop → exec (.stop skipped) s = .next { s with cycles := 4 }) ∧
    (s.params.stopMode = .refuse → exec (.stop skipped) s = .refused .stopRefused) ∧
    (s.params.illegalMode = .nop →
      exec (iIllegal y) s = .next { s with cycles := s.params.illegalCycles }) ∧
    (s.params.illegalMode = .refuse →
      exec (iIllegal y) s = .refused (.illegalOpcode (illegalBytes.getD y.val 0))) ∧
    encode (.stop skipped) = [0x10, skipped] ∧
    encode (iIllegal y) = [illegalBytes.getD y.val 0] ∧
    illegalBytes = [0xD3, 0xDB, 0xDD, 0xE3, 0xE4, 0xEB, 0xEC, 0xED, 0xF4, 0xFC, 0xFD]

/-! ## The step -/

/-- A step runs the decoded instruction (R371 to R373, R379, R390): where no idle halt and no interrupt
entry comes first, and the bytes from PC on are the instruction `i`, the step is `exec` of `i` on the
state with PC past those bytes, then the count-down, the PPU's tick and the external posts. With the
double fetch of the HALT bug pending (R376), the first byte is read without moving PC. -/
def Obligations.StepRunsDecoded : Prop :=
  ∀ (s t : State) (n : Nat) (bytes : List Byte) (i : Instr), s.executes →
    (s.cpu.holdPc = false →
      State.takeBytes n { s with cpu.halted := false } = (bytes, t) → decode bytes = .ok (i, []) →
      step s = runFetched i t ∧
        t = { s with cpu.halted := false, cpu.pc := s.cpu.pc + BitVec.ofNat 16 n,
                     env.draws := t.env.draws }) ∧
    (s.cpu.holdPc = true →
      State.takeBytes n { s.touch s.cpu.pc with cpu.halted := false, cpu.holdPc := false } =
        (bytes, t) → decode (s.peek s.cpu.pc :: bytes) = .ok (i, []) →
      step s = runFetched i t)

/-- An idle halted step (R371, R376): nothing happens but 4 dots of the PPU and the external posts.
What the posts do, here and at the end of every step (R390, R504; the list is the model's input, log
entry 5): the first of the list is ORed into IF bits 4 to 2 and leaves the list, and nothing else
changes; with the list empty, nothing does. -/
def Obligations.HaltedStepIsIdle : Prop :=
  ∀ (s : State) (p : BitVec 3) (rest : List (BitVec 3)),
    (s.cpu.halted = true → s.irq.enable &&& s.irq.flags = 0 →
      step s = .next (State.tick 4 { s with cycles := 4 }).takePosts) ∧
    (s.env.posts = p :: rest →
      s.takePosts = { s with irq.flags := s.irq.flags ||| (p ++ (0 : BitVec 2)), env.posts := rest }) ∧
    (s.env.posts = [] → s.takePosts = s)

/-- Interrupt entry (R371, R505 to R508): with IME set and a request pending and enabled, the step
takes the lowest-numbered one: its IF bit, IME and the EI delay are cleared, the CPU is awake, PC is
pushed and is then the vector 0x0040 + 8k; 20 dots; nothing else changes. That a pending double fetch
of the HALT bug outlives the entry is the model's choice (log entry 11). -/
def Obligations.InterruptEntry : Prop :=
  ∀ s : State, s.cpu.ime = true → s.irq.enable &&& s.irq.flags ≠ 0 →
    ∃ k < 5, (s.irq.enable &&& s.irq.flags).getLsbD k = true ∧
      (∀ j < k, (s.irq.enable &&& s.irq.flags).getLsbD j = false) ∧
      let sp := s.cpu.sp - 2
      let t := { s with irq.flags := s.irq.flags &&& ~~~((1 : BitVec 5) <<< k), cpu.ime := false,
                        cpu.imeSched := 0, cpu.halted := false, cpu.sp := sp,
                        cpu.pc := BitVec.ofNat 16 (0x40 + 8 * k), cycles := 20 }
      step s = .next (State.tick 20 ((t.set8 sp (lo s.cpu.pc)).set8 (sp + 1) (hi s.cpu.pc))).takePosts

/-- The delay of EI (R374, R379, R41): the step that executes EI leaves IME as it is; the step after it
sets IME at its end, unless its instruction is EI, DI or RETI. -/
def Obligations.EiTakesEffectAfterNext : Prop :=
  ∀ (s t u : State) (n : Nat) (bytes : List Byte) (i : Instr), s.executes → s.cpu.holdPc = false →
    State.takeBytes n { s with cpu.halted := false } = (bytes, t) → decode bytes = .ok (i, []) →
    step s = .next u →
    (i = .ei → u.cpu.ime = s.cpu.ime ∧ u.cpu.imeSched = 1) ∧
    (i = .di → u.cpu.ime = false ∧ u.cpu.imeSched = 0) ∧
    (i = .reti → u.cpu.ime = true ∧ u.cpu.imeSched = 0) ∧
    (i ≠ .ei → i ≠ .di → i ≠ .reti →
      (s.cpu.imeSched = 0 → u.cpu.ime = s.cpu.ime ∧ u.cpu.imeSched = 0) ∧
      (s.cpu.imeSched = 1 → u.cpu.ime = true ∧ u.cpu.imeSched = 0) ∧
      (s.cpu.imeSched = 2 → u.cpu.ime = s.cpu.ime ∧ u.cpu.imeSched = 1))

/-- `step()` is total (R371, R501) and its dots are a positive multiple of 4 when `ILLEGAL_CYCLES` is
(R380): with the default modes it always gives a next state, never a fault;
a refusal names STOP or an illegal byte and comes only from the parameter that asks for it. -/
def Obligations.StepIsTotal : Prop :=
  ∀ s : State,
    (s.runs → ∃ t, step s = .next t) ∧
    (∀ t, s.cpuStep = .next t → 0 < s.params.illegalCycles → 4 ∣ s.params.illegalCycles →
      0 < t.cycles ∧ 4 ∣ t.cycles) ∧
    (∀ r, step s ≠ .fault r) ∧
    (∀ r, step s = .refused r →
      r = .stopRefused ∧ s.params.stopMode = .refuse ∨
      (∃ op ∈ illegalBytes, r = .illegalOpcode op) ∧ s.params.illegalMode = .refuse)

/-! ## Frames over all instructions -/

/-- An instruction that stores nothing changes the CPU's registers only (and the model's own record of
device bytes): every register of the PPU, the interrupt controller and the DMA engines, every memory
and the screen stay, so every byte that no device draws reads as before. -/
def Obligations.NonStoringFrame : Prop :=
  ∀ (i : Instr) (s t : State), storedTo i s = [] → exec i s = .next t →
    t = { s with cpu := t.cpu, env.draws := t.env.draws, cycles := t.cycles } ∧
    ∀ a, s.drawsAt (route a) = false → t.peek a = s.peek a

/-- An instruction that stores outside the I/O window changes memory at the addresses `storedTo`
computes only: every byte in another place reads as before, and no PPU, interrupt-request or DMA
register changes. (Only the plain cartridge keeps its other bytes when it is stored to, which is the
model's choice of that device, log entry 3: R90 leaves it to the device. Stores into the I/O window have
the statements of its registers.) -/
def Obligations.StoringFrame : Prop :=
  ∀ (i : Instr) (s t : State) (b : Word), exec i s = .next t →
    (∀ a ∈ storedTo i s, (∀ r, route a ≠ .io r) ∧ route a ≠ route b) →
    (s.params.cart = .flat ∨ ∀ n, route b ≠ .cart n) → s.drawsAt (route b) = false →
    t.peek b = s.peek b ∧ t.params = s.params ∧ t.irq.flags = s.irq.flags ∧ t.ppu = s.ppu ∧
      t.hdma = s.hdma ∧ t.lcd = s.lcd ∧ t.env.posts = s.env.posts

/-- The CPU registers an instruction leaves alone (R34, R37, R39 to R42): F but for the forms with a
Flags field and POP AF; SP and PC but for the forms that name them; IME but for DI and RETI, and the
EI delay but for EI, DI and RETI; the halt state but for HALT. -/
def Obligations.ControlRegistersFrame : Prop :=
  ∀ (i : Instr) (s t : State), exec i s = .next t →
    ((formOf i).unprefixed.writesF = false → t.cpu.f = s.cpu.f) ∧
    ((formOf i).writesSp = false → t.cpu.sp = s.cpu.sp) ∧
    ((formOf i).writesPc = false → t.cpu.pc = s.cpu.pc) ∧
    (i ≠ .di → i ≠ .reti → t.cpu.ime = s.cpu.ime) ∧
    (i ≠ .ei → i ≠ .di → i ≠ .reti → t.cpu.imeSched = s.cpu.imeSched) ∧
    (i ≠ .halt → t.cpu.halted = s.cpu.halted ∧ t.cpu.holdPc = s.cpu.holdPc) ∧
    t.params = s.params

/-! ## The bus -/

/-- The address map (R84, R92, R94, R95): where each address goes. Every address of the I/O window that
the table of R95 (`owned`) does not list goes to the external device, where a store has no effect inside
the block (R97; log entry 4). -/
def Obligations.AddressMap : Prop :=
  let owned : List (Word × IoReg) :=
    [(0xFF0F, .irqFlags), (0xFF40, .lcdc), (0xFF41, .stat), (0xFF42, .scy), (0xFF43, .scx),
     (0xFF44, .ly), (0xFF45, .lyc), (0xFF46, .dma), (0xFF47, .bgp), (0xFF48, .obp0), (0xFF49, .obp1),
     (0xFF4A, .wy), (0xFF4B, .wx), (0xFF4F, .vbk), (0xFF51, .hdma1), (0xFF52, .hdma2), (0xFF53, .hdma3),
     (0xFF54, .hdma4), (0xFF55, .hdma5), (0xFF68, .bcps), (0xFF69, .bcpd), (0xFF6A, .ocps),
     (0xFF6B, .ocpd)]
  ∀ (a : Word) (s : State) (v : Byte),
    (a.toNat < 0x8000 ∨ 0xA000 ≤ a.toNat ∧ a.toNat < 0xC000 → route a = .cart a.toNat) ∧
    (0x8000 ≤ a.toNat ∧ a.toNat < 0xA000 → route a = .vram (a.toNat - 0x8000)) ∧
    (0xC000 ≤ a.toNat ∧ a.toNat < 0xE000 → route a = .wram (a.toNat - 0xC000)) ∧
    (0xE000 ≤ a.toNat ∧ a.toNat < 0xFE00 →
      route a = route (a - 0x2000) ∧ s.peek a = s.peek (a - 0x2000) ∧
        s.set8 a v = s.set8 (a - 0x2000) v) ∧
    (0xFE00 ≤ a.toNat ∧ a.toNat < 0xFEA0 → route a = .oam (a.toNat - 0xFE00)) ∧
    (0xFEA0 ≤ a.toNat ∧ a.toNat < 0xFF00 → s.peek a = 0x00 ∧ s.set8 a v = s) ∧
    (0xFF00 ≤ a.toNat ∧ a.toNat < 0xFF80 → ∃ r, route a = .io r) ∧
    (∀ p ∈ owned, route p.1 = .io p.2) ∧
    (0xFF00 ≤ a.toNat ∧ a.toNat < 0xFF80 → a ∉ owned.map Prod.fst →
      route a = .io (.external a.toNat) ∧ s.set8 a v = s) ∧
    (0xFF80 ≤ a.toNat ∧ a.toNat < 0xFFFF → route a = .hram (a.toNat - 0xFF80)) ∧
    (a.toNat = 0xFFFF → route a = .irqEnable)

/-- Bus reads (R85, R87, R97, R102): a 16-bit access is two byte accesses, the low byte at the lower
address, wrapping at 0xFFFF; a read changes nothing but the model's own record of device bytes drawn,
and that only for a byte a device answers; so every other read is idempotent (R103). The last clause is
the model's choice of a cartridge with a state of its own (log entry 3; R70 and R90 leave the device
open): its answer is free, and depends on the record of the writes it has seen and of the bytes drawn;
each read of it and each write to it enters that record, and changes nothing else. -/
def Obligations.BusReads : Prop :=
  ∀ (s : State) (a b v : Word) (x : Byte) (k n : Nat),
    (s.get16 a).1.toNat = (s.peek a).toNat + 256 * ((s.touch a).peek (a + 1)).toNat ∧
    (s.get16 a).2 = (s.touch a).touch (a + 1) ∧
    s.set16 a v = (s.set8 a (v.extractLsb' 0 8)).set8 (a + 1) (v.extractLsb' 8 8) ∧
    (a = 0xFFFF → a + 1 = 0) ∧
    s.touch a = { s with env.draws := (s.touch a).env.draws } ∧
    (s.drawsAt (route a) = false → s.touch a = s) ∧
    (s.drawsAt (route b) = false → (s.touch a).peek b = s.peek b) ∧
    (s.drawsAt (route a) = true →
      (∃ n, route a = .io (.external n)) ∨ s.cartKnown = false ∧ ∃ n, route a = .cart n) ∧
    (s.params.cart = .device k → route a = .cart n →
      s.peek a = Config.cartByte (.device k) s.env.cartLog s.env.draws n ∧
      s.touch a = { s with env.draws := ⟨a, s.env.cartLog.length⟩ :: s.env.draws } ∧
      s.set8 a x = { s with env.cartLog := (n, x) :: s.env.cartLog })

/-- A byte of plain memory reads back what was stored, and no byte in another place changes
(R84, R86, R91, R93, R96): only the one memory that the address names changes, at the one byte it names,
so the video RAM bank that VBK does not select and the palettes stay whole. The cartridge part is about
the plain cartridge's 0xA000-0xBFFF (log entry 3, the model's choice). -/
def Obligations.ReadAfterWrite : Prop :=
  (∀ (s : State) (a b : Word) (v : Byte), s.memOk → (route a).storage = true →
    (∀ n, route a = .cart n → s.params.cart = .flat ∧ 0x8000 ≤ a.toNat) →
    (s.set8 a v).peek a = v ∧ (route b ≠ route a → (s.set8 a v).peek b = s.peek b) ∧
    s.set8 a v = { s with mem := (s.set8 a v).mem } ∧ (s.set8 a v).memOk ∧
    (s.set8 a v).mem =
      (match route a with
      | .cart n => { s.mem with cart := Memory.write s.mem.cart n v }
      | .vram i =>
        if s.params.model = .cgb ∧ s.ppu.vbk = 1 then
          { s.mem with vram1 := Memory.write s.mem.vram1 i v }
        else { s.mem with vram0 := Memory.write s.mem.vram0 i v }
      | .wram i => { s.mem with wram := Memory.write s.mem.wram i v }
      | .oam i => { s.mem with oam := Memory.write s.mem.oam i v }
      | .hram i => { s.mem with hram := Memory.write s.mem.hram i v }
      | _ => s.mem)) ∧
  ∀ (m : Memory) (k j : Nat) (v : Byte), m.wf = true →
    (Memory.write m k v).wf = true ∧
    Memory.read (Memory.write m k v) j = (if j = k then v else Memory.read m j)

/-- IF and IE (R44, R45, R502: five bits are stored, the others read `UNUSED_BIT`), STAT, LY and the PPU
registers that are plain bytes (R50 to R52, R54, R411, R414): what a read gives, and what a write
stores. A write to LY is ignored. -/
def Obligations.IoRegisters : Prop :=
  ∀ (s : State) (v : Byte),
    let unused : Byte := if s.params.unusedBit then 0xE0 else 0
    s.set8 0xFF0F v = { s with irq.flags := v.extractLsb' 0 5 } ∧
    (s.set8 0xFF0F v).peek 0xFF0F = unused ||| (v &&& 0x1F) ∧
    s.set8 0xFFFF v = { s with irq.enable := v.extractLsb' 0 5 } ∧
    (s.set8 0xFFFF v).peek 0xFFFF = unused ||| (v &&& 0x1F) ∧
    s.peek 0xFF41 = (if s.params.unusedBit then 0x80 else 0) + BitVec.ofNat 8 (8 * s.ppu.statEn.toNat) +
      (if s.ppu.ly = s.ppu.lyc then 4 else 0) + s.ppu.mode.bits ∧
    s.set8 0xFF41 v = { s with ppu.statEn := v.extractLsb' 3 4 } ∧
    s.peek 0xFF44 = s.ppu.ly ∧ s.set8 0xFF44 v = s ∧
    s.peek 0xFF40 = s.ppu.lcdc ∧ s.peek 0xFF46 = s.ppu.dma ∧
    s.set8 0xFF42 v = { s with ppu.scy := v } ∧ s.peek 0xFF42 = s.ppu.scy ∧
    s.set8 0xFF43 v = { s with ppu.scx := v } ∧ s.peek 0xFF43 = s.ppu.scx ∧
    s.set8 0xFF45 v = { s with ppu.lyc := v } ∧ s.peek 0xFF45 = s.ppu.lyc ∧
    s.set8 0xFF47 v = { s with ppu.bgp := v } ∧ s.peek 0xFF47 = s.ppu.bgp ∧
    s.set8 0xFF48 v = { s with ppu.obp0 := v } ∧ s.peek 0xFF48 = s.ppu.obp0 ∧
    s.set8 0xFF49 v = { s with ppu.obp1 := v } ∧ s.peek 0xFF49 = s.ppu.obp1 ∧
    s.set8 0xFF4A v = { s with ppu.wy := v } ∧ s.peek 0xFF4A = s.ppu.wy ∧
    s.set8 0xFF4B v = { s with ppu.wx := v } ∧ s.peek 0xFF4B = s.ppu.wx

/-- A write to LCDC, and the LCD-off reset (R412): with bit 7 set it stores the byte and nothing else changes; with bit
7 clear the dot, the line and the mode are 0 and every pixel is `GRAY[0]`, whatever they were. -/
def Obligations.LcdcWrite : Prop :=
  ∀ (s : State) (v : Byte),
    (bit v 7 = true → s.set8 0xFF40 v = { s with ppu.lcdc := v }) ∧
    (bit v 7 = false → ∃ l,
      s.set8 0xFF40 v =
        { s with ppu.lcdc := v, ppu.dots := 0, ppu.ly := 0, ppu.mode := .hblank, lcd.screen := l } ∧
      l.length = 144 ∧ ∀ line ∈ l, line.length = 160 ∧
        ∀ px ∈ line, px = ⟨s.params.gray.g0, s.params.gray.g0, s.params.gray.g0⟩)

/-- VBK, BCPS, BCPD, OCPS and OCPD (R55, R56, R91, R476): on the CGB, the bank that CPU accesses to
video RAM read and write; what the registers read, with `UNUSED_BIT` in their unused bits; the palette
byte at the index, which a read leaves as it is with all the rest of the state, and the index moving on
by one modulo 64 after a write with auto-increment. On the DMG video RAM is bank 0, and the registers of the colour console are absent (R65): they
read 0, and a write to one changes nothing. -/
def Obligations.ColourRegisters : Prop :=
  ∀ (s : State) (v : Byte) (a : Word),
    let unused (m : Byte) : Byte := if s.params.unusedBit then m else 0
    (s.params.model = .cgb →
      s.set8 0xFF4F v = { s with ppu.vbk := v.extractLsb' 0 1 } ∧
      s.peek 0xFF4F = unused 0xFE + BitVec.ofNat 8 s.ppu.vbk.toNat ∧
      (0x8000 ≤ a.toNat → a.toNat < 0xA000 →
        s.peek a = Memory.read (if s.ppu.vbk = 1 then s.mem.vram1 else s.mem.vram0) (a.toNat - 0x8000) ∧
        s.set8 a v = (if s.ppu.vbk = 1 then
            { s with mem.vram1 := Memory.write s.mem.vram1 (a.toNat - 0x8000) v }
          else { s with mem.vram0 := Memory.write s.mem.vram0 (a.toNat - 0x8000) v })) ∧
      s.set8 0xFF68 v = { s with ppu.bcpsInc := bit v 7, ppu.bcpsIdx := v.extractLsb' 0 6 } ∧
      s.peek 0xFF68 = (if s.ppu.bcpsInc then 0x80 else 0) + unused 0x40 +
        BitVec.ofNat 8 s.ppu.bcpsIdx.toNat ∧
      s.peek 0xFF69 = Memory.read s.mem.bgPal s.ppu.bcpsIdx.toNat ∧ s.touch 0xFF69 = s ∧
      s.set8 0xFF69 v = { s with
        mem.bgPal := Memory.write s.mem.bgPal s.ppu.bcpsIdx.toNat v,
        ppu.bcpsIdx := if s.ppu.bcpsInc then BitVec.ofNat 6 ((s.ppu.bcpsIdx.toNat + 1) % 64)
          else s.ppu.bcpsIdx } ∧
      s.set8 0xFF6A v = { s with ppu.ocpsInc := bit v 7, ppu.ocpsIdx := v.extractLsb' 0 6 } ∧
      s.peek 0xFF6A = (if s.ppu.ocpsInc then 0x80 else 0) + unused 0x40 +
        BitVec.ofNat 8 s.ppu.ocpsIdx.toNat ∧
      s.peek 0xFF6B = Memory.read s.mem.objPal s.ppu.ocpsIdx.toNat ∧ s.touch 0xFF6B = s ∧
      s.set8 0xFF6B v = { s with
        mem.objPal := Memory.write s.mem.objPal s.ppu.ocpsIdx.toNat v,
        ppu.ocpsIdx := if s.ppu.ocpsInc then BitVec.ofNat 6 ((s.ppu.ocpsIdx.toNat + 1) % 64)
          else s.ppu.ocpsIdx }) ∧
    (s.params.model = .dmg →
      (0x8000 ≤ a.toNat → a.toNat < 0xA000 →
        s.peek a = Memory.read s.mem.vram0 (a.toNat - 0x8000) ∧
        s.set8 a v = { s with mem.vram0 := Memory.write s.mem.vram0 (a.toNat - 0x8000) v }) ∧
      (a ∈ [0xFF4F, 0xFF51, 0xFF52, 0xFF53, 0xFF54, 0xFF55, 0xFF68, 0xFF69, 0xFF6A, 0xFF6B] →
        s.peek a = 0 ∧ s.set8 a v = s))

/-! ## DMA -/

/-- OAM DMA (R440): a write of `v` to DMA copies the 160 bytes of page `v` into OAM, and changes
nothing but OAM and the DMA register; with `OAM_DMA = stub` it stores the register only. (For pages
whose bytes no device draws: the others differ in the model's record of draws only.) -/
def Obligations.OamDmaCopies : Prop :=
  ∀ (s : State) (v : Byte),
    let t := { s with ppu.dma := v }
    (s.params.oamDma = .stub → s.set8 0xFF46 v = t) ∧
    (s.params.oamDma = .copy → s.memOk →
      (∀ i < 160, s.drawsAt (route (BitVec.ofNat 16 (256 * v.toNat + i))) = false) →
      ∃ m, s.set8 0xFF46 v = { t with mem.oam := m } ∧
        ∀ i < 160, Memory.read m i = t.peek (BitVec.ofNat 16 (256 * v.toNat + i)))

/-- The HDMA registers on the CGB: what a write to HDMA1 to HDMA4 stores and what they read (the fields
of R57 and R445), the start of an H-blank transfer (that case of R446), the cancel (R447), and what HDMA5
reads (R60). -/
def Obligations.HdmaRegisters : Prop :=
  ∀ (s : State) (v : Byte), s.params.model = .cgb →
    s.set8 0xFF51 v = { s with hdma.src := v ++ s.hdma.src.extractLsb' 0 8 } ∧
    s.set8 0xFF52 v = { s with hdma.src := s.hdma.src.extractLsb' 8 8 ++ (v &&& 0xF0) } ∧
    s.set8 0xFF53 v = { s with hdma.dst := (0x80 ||| (v &&& 0x1F)) ++ s.hdma.dst.extractLsb' 0 8 } ∧
    s.set8 0xFF54 v = { s with hdma.dst := s.hdma.dst.extractLsb' 8 8 ++ (v &&& 0xF0) } ∧
    (bit v 7 = true →
      s.set8 0xFF55 v =
        { s with hdma.remaining := (v &&& 0x7F) + 1, hdma.mode := .hdma, hdma.active := true }) ∧
    (bit v 7 = false → s.hdma.active = true → s.set8 0xFF55 v = { s with hdma.active := false }) ∧
    s.peek 0xFF55 = (if s.hdma.active then 0 else 0x80) ||| ((s.hdma.remaining - 1) &&& 0x7F) ∧
    ∀ a ∈ [0xFF51, 0xFF52, 0xFF53, 0xFF54], s.peek a = (if s.params.unusedBit then 0xFF else 0)

/-- A general-purpose transfer (R446, R448): a write of `v` with bit 7 clear, no transfer being active,
runs all its blocks at once: the source moves on by 16 bytes for each, none is left, none is active,
and only video RAM and the descriptor change (and the model's record of draws). -/
def Obligations.GeneralDmaRunsAtOnce : Prop :=
  ∀ (s : State) (v : Byte), s.params.model = .cgb → s.hdmaOk → 0x8000 ≤ s.hdma.dst.toNat →
    bit v 7 = false → s.hdma.active = false →
    let t := s.set8 0xFF55 v
    t.hdma.remaining = 0 ∧ t.hdma.active = false ∧
    t.hdma.src = s.hdma.src + BitVec.ofNat 16 (16 * (v.toNat + 1)) ∧
    t.hdma.dst = BitVec.ofNat 16 (0x8000 + (s.hdma.dst.toNat - 0x8000 + 16 * (v.toNat + 1)) % 0x2000) ∧
    t = { s with hdma := t.hdma, mem.vram0 := t.mem.vram0, mem.vram1 := t.mem.vram1,
                 env.draws := t.env.draws }

/-- One HDMA block (R448): sixteen bytes from the source to video RAM, in the bank VBK selects, when no
device draws them and they do not lie in video RAM themselves; the descriptor moves on, and
`hdma_active` falls with the last block; with `HDMA_ENGINE = registers_only` no byte moves. -/
def Obligations.HdmaBlockCopies : Prop :=
  ∀ s : State, s.memOk → s.hdmaOk → 0x8000 ≤ s.hdma.dst.toNat →
    let t := s.hdmaBlock
    t.hdma.src = s.hdma.src + 16 ∧
    t.hdma.dst.toNat = 0x8000 + (s.hdma.dst.toNat - 0x8000 + 16) % 0x2000 ∧
    t.hdma.remaining = s.hdma.remaining - 1 ∧
    t.hdma.active = (s.hdma.active && s.hdma.remaining - 1 != 0) ∧ t.hdma.mode = s.hdma.mode ∧
    (s.params.hdmaEngine = .registersOnly → t = { s with hdma := t.hdma }) ∧
    (s.params.hdmaEngine = .copy →
      (∀ i < 16, s.drawsAt (route (s.hdma.src + BitVec.ofNat 16 i)) = false ∧
        ∀ n, route (s.hdma.src + BitVec.ofNat 16 i) ≠ .vram n) →
      (∀ i < 16, t.peek (s.hdma.dst + BitVec.ofNat 16 i) = s.peek (s.hdma.src + BitVec.ofNat 16 i)) ∧
      ∀ b : Word, (∀ i < 16, route b ≠ route (s.hdma.dst + BitVec.ofNat 16 i)) → b ≠ 0xFF55 →
        s.drawsAt (route b) = false → t.peek b = s.peek b)

/-! ## The PPU -/

/-- One dot with the LCD on (R402, R421, R423): the dot counter moves on, LY at the 456-dot boundary,
modulo 154, where it is compared with LYC; the mode is `ModeOf` of both; a change of mode has its
one-shot actions, after that; nothing else changes. -/
def Obligations.DotStep : Prop :=
  ∀ s : State, s.ppu.dots < 456 → s.ppu.ly.toNat < 154 →
    let t := s.dotStep
    let compares := s.ppu.dots == 455 && t.ppu.ly == s.ppu.lyc && s.ppu.statEn.getLsbD 3
    let u := { s with ppu := t.ppu, irq.flags := s.irq.flags ||| (if compares then 0b00010 else 0) }
    t.ppu.dots = (s.ppu.dots + 1) % 456 ∧
    t.ppu.ly.toNat = (if s.ppu.dots = 455 then (s.ppu.ly.toNat + 1) % 154 else s.ppu.ly.toNat) ∧
    t.ppu.mode = (if 144 ≤ t.ppu.ly.toNat then .vblank else if t.ppu.dots < 80 then .oamScan
      else if t.ppu.dots < 252 then .transfer else .hblank) ∧
    t.ppu = { s.ppu with dots := t.ppu.dots, ly := t.ppu.ly, mode := t.ppu.mode } ∧
    t = (if t.ppu.mode = s.ppu.mode then u else u.enterMode t.ppu.mode)

/-- The one-shot actions of a mode change (R422, R449, R505): the requests each posts, VBlank always at
mode 1; at mode 0 the line is rendered, and then an active H-blank transfer of the CGB moves a block. -/
def Obligations.ModeEntry : Prop :=
  ∀ s : State,
    let stat (p : Bool) : BitVec 5 := if p then 0b00010 else 0
    s.enterMode .oamScan = { s with irq.flags := s.irq.flags ||| stat (s.readStat.getLsbD 5) } ∧
    s.enterMode .transfer = s ∧
    s.enterMode .vblank =
      { s with irq.flags := s.irq.flags ||| 0b00001 ||| stat (s.readStat.getLsbD 4) } ∧
    (let r := { s.renderLine s.ppu.ly.toNat with
        irq.flags := s.irq.flags ||| stat (s.readStat.getLsbD 3) }
     s.enterMode .hblank =
      (if s.params.model = .cgb ∧ s.hdma.active = true ∧ s.hdma.mode = .hdma then r.hdmaBlock else r))

/-- The tick (R413, R420, R427): with the LCD off it does nothing; it never touches the CPU, the
parameters, the external posts or IE's and the PPU's other registers, and, the HDMA destination lying
in video RAM, no memory but video RAM. -/
def Obligations.TickFrame : Prop :=
  ∀ (s : State) (n : Nat),
    let t := State.tick n s
    (bit s.ppu.lcdc 7 = false → t = s) ∧
    t.cpu = s.cpu ∧ t.params = s.params ∧ t.cycles = s.cycles ∧ t.env.posts = s.env.posts ∧
    t.ppu = { s.ppu with dots := t.ppu.dots, ly := t.ppu.ly, mode := t.ppu.mode } ∧
    (s.hdmaOk → 0x8000 ≤ s.hdma.dst.toNat ∨ s.hdma.active = false →
      t.irq.enable = s.irq.enable ∧
      t.mem = { s.mem with vram0 := t.mem.vram0, vram1 := t.mem.vram1 })

/-- The events of a frame (R401, R402, R420, R425): from the clean start with the LCD on, after `n`
dots the place in the frame is `n` divided by 456, modulo 154 lines, and the mode is that of the place;
VBlank has been requested from dot 65,664 on and not before. -/
def Obligations.FrameFromCleanStart : Prop :=
  ∀ (s : State) (n : Nat), bit s.ppu.lcdc 7 = true → s.ppu.dots = 0 → s.ppu.ly = 0 →
    s.ppu.mode = .hblank → 1 ≤ n →
    let t := State.tick n s
    t.ppu.dots = n % 456 ∧ t.ppu.ly.toNat = n / 456 % 154 ∧
    t.ppu.mode = (if 144 ≤ n / 456 % 154 then .vblank else if n % 456 < 80 then .oamScan
      else if n % 456 < 252 then .transfer else .hblank) ∧
    (65664 ≤ n → t.irq.flags.getLsbD 0 = true) ∧
    (n < 65664 → t.irq.flags.getLsbD 0 = s.irq.flags.getLsbD 0)

/-! ## The compositor -/

/-- A rendered line (R461, R467, R470, R472): each of its 160 pixels is that of the sprite with the
lowest OAM index among those that draw there, if sprites are on, and the background's otherwise; its
priority record is the background's; no other line and nothing else changes. -/
def Obligations.RenderedLine : Prop :=
  ∀ (s : State) (ly x : Nat), s.screenOk → ly < 144 → x < 160 →
    let t := s.renderLine ly
    let prio := t.lcd.prio
    t = { s with lcd := t.lcd } ∧
    prio[x]? = some (s.bgPixel ly x).1 ∧
    ((t.lcd.screen.getD ly [])[x]?) =
      some ((if bit s.ppu.lcdc 1 then (List.range 40).findSome? (s.spriteAt prio ly x) else none).getD
        (s.bgPixel ly x).2) ∧
    (∀ y, y ≠ ly → t.lcd.screen[y]? = s.lcd.screen[y]?) ∧ t.screenOk

/-- The worked background examples of R480, for LCDC = 0x91 and 0x81: the first eight pixels of line 0
and their priority records. -/
def Obligations.WorkedBackground : Prop :=
  ∀ (s : State) (x : Nat), s.screenOk → s.params.model = .dmg →
    s.params.gray = ⟨0xFF, 0xC0, 0x60, 0x00⟩ → s.ppu.scx = 0 → s.ppu.scy = 0 → s.ppu.bgp = 0xFC →
    Memory.read s.mem.vram0 0x1800 = 0x00 → x < 8 →
    let t := s.renderLine 0
    let black := t.lcd.prio[x]? = some ⟨false, 1⟩ ∧ (t.lcd.screen.getD 0 [])[x]? = some ⟨0x00, 0x00, 0x00⟩
    (s.ppu.lcdc = 0x91 → Memory.read s.mem.vram0 0x0000 = 0xFF → Memory.read s.mem.vram0 0x0001 = 0x00 →
      black) ∧
    (s.ppu.lcdc = 0x81 → Memory.read s.mem.vram0 0x1000 = 0xFF → Memory.read s.mem.vram0 0x1001 = 0x00 →
      black)

/-- `ColorMix` (R478): the formula over the three 5-bit fields, every byte at most 248, and the six
values the rule lists; a palette entry is its two bytes, low byte first, without bit 15. -/
def Obligations.ColorMixFormula : Prop :=
  ∀ (w : BitVec 15) (m : Memory) (e : Nat),
    let r := (w.extractLsb' 0 5).toNat
    let g := (w.extractLsb' 5 5).toNat
    let b := (w.extractLsb' 10 5).toNat
    let c := mixColor .formula w
    c.r.toNat = (r * 13 + g * 2 + b) / 2 ∧ c.g.toNat = (g * 3 + b) * 2 ∧
    c.b.toNat = (r * 3 + g * 2 + b * 11) / 2 ∧
    c.r.toNat ≤ 248 ∧ c.g.toNat ≤ 248 ∧ c.b.toNat ≤ 248 ∧
    mixColor .formula 0x7FFF = ⟨248, 248, 248⟩ ∧ mixColor .formula 0x0000 = ⟨0, 0, 0⟩ ∧
    mixColor .formula 0x001F = ⟨201, 0, 46⟩ ∧ mixColor .formula 0x03E0 = ⟨31, 186, 31⟩ ∧
    mixColor .formula 0x7C00 = ⟨15, 62, 170⟩ ∧ mixColor .formula 0x4210 = ⟨128, 128, 128⟩ ∧
    (paletteEntry m e).toNat =
      ((Memory.read m (2 * e)).toNat + 256 * (Memory.read m (2 * e + 1)).toNat) % 0x8000

/-! ## The whole machine -/

/-- The state after reset (R72, R541), of both models, for the registers the rule gives; and power-on
with any parameters, `INIT_REGS`, `INIT_RAM`, cartridge and external posts (R11, D28, D29): each is taken
as given, PC, SP and LCDC bit 7 are the source's own, and every pixel is `GRAY[0]`. -/
def Obligations.ResetValues : Prop :=
  (∀ (p : Params) (regs : InitRegs) (contents : Mems) (posts : List (BitVec 3)),
    let s := State.powerOn p regs contents posts
    s.params = p ∧ s.mem = contents ∧ s.env.posts = posts ∧ s.irq = regs.irq ∧ s.hdma = regs.hdma ∧
    s.cpu = { regs.cpu with pc := 0x0100, sp := 0xFFFE } ∧
    s.ppu = { regs.ppu with lcdc := s.ppu.lcdc } ∧ bit s.ppu.lcdc 7 = true ∧
    (∀ i < 7, bit s.ppu.lcdc i = bit regs.ppu.lcdc i) ∧
    ∀ line ∈ s.lcd.screen, ∀ px ∈ line, px = ⟨p.gray.g0, p.gray.g0, p.gray.g0⟩) ∧
  (∀ s ∈ [State.reset, State.resetCgb],
    s.cpu.pc = 0x0100 ∧ s.cpu.sp = 0xFFFE ∧ s.cpu.ime = false ∧ s.cpu.imeSched = 0 ∧
    s.cpu.halted = false ∧ s.irq.flags = 0 ∧ s.irq.enable = 0 ∧ s.ppu.lcdc = 0x91 ∧
    s.ppu.statEn = 0 ∧ s.ppu.mode = .hblank ∧ s.ppu.dots = 0 ∧ s.ppu.ly = 0 ∧
    s.ppu.scy = 0 ∧ s.ppu.scx = 0 ∧ s.ppu.wy = 0 ∧ s.ppu.wx = 0 ∧ s.ppu.lyc = 0 ∧ s.ppu.dma = 0 ∧
    s.ppu.bgp = 0xFC ∧ s.ppu.obp0 = 0xFF ∧ s.ppu.obp1 = 0xFF ∧ s.ppu.vbk = 0 ∧
    s.ppu.bcpsInc = false ∧ s.ppu.bcpsIdx = 0 ∧ s.ppu.ocpsInc = false ∧ s.ppu.ocpsIdx = 0 ∧
    s.hdma.src = 0 ∧ s.hdma.dst = 0 ∧ s.hdma.active = false ∧ s.hdma.remaining = 0 ∧
    s.hdma.read5 = 0xFF ∧
    ∀ line ∈ s.lcd.screen, ∀ px ∈ line, px = ⟨0xFF, 0xFF, 0xFF⟩) ∧
  State.reset.params.model = .dmg ∧
  (State.reset.cpu.a, State.reset.cpu.f, State.reset.cpu.b, State.reset.cpu.c) =
    (0x01, 0xB0, 0x00, 0x13) ∧
  (State.reset.cpu.d, State.reset.cpu.e, State.reset.cpu.h, State.reset.cpu.l) =
    (0x00, 0xD8, 0x01, 0x4D) ∧
  State.resetCgb.params.model = .cgb ∧
  (State.resetCgb.cpu.a, State.resetCgb.cpu.f, State.resetCgb.cpu.b, State.resetCgb.cpu.c) =
    (0x11, 0x80, 0x00, 0x00) ∧
  (State.resetCgb.cpu.d, State.resetCgb.cpu.e, State.resetCgb.cpu.h, State.resetCgb.cpu.l) =
    (0xFF, 0x56, 0x00, 0x0D)

/-- The state after reset meets the invariants, for both models, and so does power-on with any
parameters, registers and contents that meet them (R11, R72, R426). -/
def Obligations.ResetIsGood : Prop :=
  State.reset.Good ∧ State.resetCgb.Good ∧
  ∀ (p : Params) (regs : InitRegs) (contents : Mems) (posts : List (BitVec 3)),
    regs.cpu.f &&& 0x0F = 0 → regs.ppu.dots < 456 → regs.ppu.ly.toNat < 154 →
    (regs.ppu.mode = modeOf regs.ppu.ly.toNat regs.ppu.dots ∨
      regs.ppu.dots = 0 ∧ regs.ppu.ly = 0 ∧ regs.ppu.mode = .hblank) →
    contents.ok → regs.hdma.ok → (State.powerOn p regs contents posts).Good

/-- Every step keeps the invariants (R33, R59, R61, R62, R64, R65, R68, R426), from every state that
meets them, and no step changes a parameter. -/
def Obligations.StepKeepsGood : Prop :=
  ∀ s t : State, s.Good → step s = .next t → t.Good ∧ t.params = s.params

/-- No program observes the pixel buffer or the priority record (R61, R62): two states that differ in
them only step to states that differ in them only, or stop alike. -/
def Obligations.ScreenIsNotObservable : Prop :=
  ∀ (s : State) (l : Lcd),
    (∀ t, step s = .next t → ∃ l', step { s with lcd := l } = .next { t with lcd := l' }) ∧
    (∀ r, step s = .refused r → step { s with lcd := l } = .refused r)
end

