-- ==== Sys2Proof/Laws/Memory.lean ====
section
/-! SUPPORT. The laws of one memory: reading after writing, and the canonical form. -/

namespace Sys2Proof.Machine

theorem Memory.read_below (m : Memory) (a n : Nat) (h : Memory.wfFrom n m = true) (ha : a < n) :
    Memory.read m a = Memory.blank := by
  induction m generalizing n with
  | nil => rfl
  | cons c m ih =>
    obtain ⟨k, v⟩ := c
    simp only [Memory.wfFrom, Bool.and_eq_true, decide_eq_true_eq] at h
    have hk : k ≠ a := by omega
    simp only [Memory.read, hk, if_false]
    exact ih (k + 1) h.2 (by omega)

/-- A read after a write to the same place gives the value written. -/
theorem Memory.read_write_same (m : Memory) (a : Nat) (v : Byte) (h : m.wf = true) :
    Memory.read (Memory.write m a v) a = v := by
  suffices H : ∀ n, Memory.wfFrom n m = true → Memory.read (Memory.write m a v) a = v from H 0 h
  clear h
  intro n h
  induction m generalizing n with
  | nil => by_cases hv : v = Memory.blank <;> simp [Memory.write, Memory.read, hv]
  | cons c m ih =>
    obtain ⟨k, w⟩ := c
    simp only [Memory.wfFrom, Bool.and_eq_true, decide_eq_true_eq] at h
    simp only [Memory.write]
    by_cases h1 : a < k
    · by_cases hv : v = Memory.blank
      · have hk : k ≠ a := by omega
        simp only [h1, hv, if_true, Memory.read, hk, if_false]
        exact Memory.read_below m a (k + 1) h.2 (by omega)
      · simp [h1, hv, Memory.read]
    · by_cases h2 : a = k
      · by_cases hv : v = Memory.blank
        · subst h2
          simp only [h1, hv, if_false, if_true]
          exact Memory.read_below m a (a + 1) h.2 (by omega)
        · simp [h2, hv, Memory.read]
      · have hk : k ≠ a := fun e => h2 e.symm
        simp only [h1, h2, if_false, Memory.read, hk]
        exact ih (k + 1) h.2

/-- A write leaves every other place alone, in any list. -/
theorem Memory.read_write_other (m : Memory) (a b : Nat) (v : Byte) (h : b ≠ a) :
    Memory.read (Memory.write m a v) b = Memory.read m b := by
  induction m with
  | nil =>
    by_cases hv : v = Memory.blank
    · simp [Memory.write, hv]
    · simp [Memory.write, Memory.read, hv, Ne.symm h]
  | cons c m ih =>
    obtain ⟨k, w⟩ := c
    simp only [Memory.write]
    by_cases h1 : a < k
    · by_cases hv : v = Memory.blank <;> simp [h1, hv, Memory.read, Ne.symm h]
    · by_cases h2 : a = k
      · subst h2
        by_cases hv : v = Memory.blank <;> simp [hv, Memory.read, Ne.symm h]
      · simp only [h1, h2, if_false, Memory.read]
        split <;> [rfl; exact ih]

theorem Memory.wfFrom_mono {m : Memory} {n n' : Nat} (h : Memory.wfFrom n m = true) (hn : n' ≤ n) :
    Memory.wfFrom n' m = true := by
  cases m with
  | nil => rfl
  | cons c m =>
    obtain ⟨k, w⟩ := c
    simp only [Memory.wfFrom, Bool.and_eq_true, decide_eq_true_eq] at h ⊢
    exact ⟨⟨by omega, h.1.2⟩, h.2⟩

theorem Memory.wfFrom_write (m : Memory) (a n : Nat) (v : Byte) (h : Memory.wfFrom n m = true)
    (ha : n ≤ a) : Memory.wfFrom n (Memory.write m a v) = true := by
  induction m generalizing n with
  | nil => by_cases hv : v = Memory.blank <;> simp [Memory.write, Memory.wfFrom, hv, ha]
  | cons c m ih =>
    obtain ⟨k, w⟩ := c
    have hh := h
    simp only [Memory.wfFrom, Bool.and_eq_true, decide_eq_true_eq] at h
    simp only [Memory.write]
    by_cases h1 : a < k
    · by_cases hv : v = Memory.blank
      · simpa [h1, hv] using hh
      · simp only [h1, hv, if_true, if_false, Memory.wfFrom, Bool.and_eq_true, decide_eq_true_eq]
        exact ⟨⟨ha, by simpa using hv⟩, ⟨by omega, h.1.2⟩, h.2⟩
    · by_cases h2 : a = k
      · subst h2
        by_cases hv : v = Memory.blank
        · simp only [h1, hv, if_true, if_false]
          exact Memory.wfFrom_mono h.2 (by omega)
        · simp only [h1, hv, if_true, if_false, Memory.wfFrom, Bool.and_eq_true, decide_eq_true_eq]
          exact ⟨⟨ha, by simpa using hv⟩, h.2⟩
      · simp only [h1, h2, if_false, Memory.wfFrom, Bool.and_eq_true, decide_eq_true_eq]
        exact ⟨⟨h.1.1, h.1.2⟩, ih (k + 1) h.2 (by omega)⟩

/-- A write keeps the canonical form. -/
theorem Memory.wf_write (m : Memory) (a : Nat) (v : Byte) (h : m.wf = true) :
    (Memory.write m a v).wf = true :=
  Memory.wfFrom_write m a 0 v h (Nat.zero_le a)

/-- A write below `size` keeps a memory within its size. -/
theorem Memory.within_write (m : Memory) (a size : Nat) (v : Byte) (h : m.within size = true)
    (ha : a < size) : (Memory.write m a v).within size = true := by
  induction m with
  | nil => by_cases hv : v = Memory.blank <;> simp [Memory.write, Memory.within, hv, ha]
  | cons c m ih =>
    obtain ⟨k, w⟩ := c
    simp only [Memory.within, List.all_cons, Bool.and_eq_true, decide_eq_true_eq] at h
    simp only [Memory.write]
    by_cases h1 : a < k
    · by_cases hv : v = Memory.blank <;> simp [h1, hv, Memory.within, ha, h.1] <;>
        simpa [Memory.within] using h.2
    · by_cases h2 : a = k
      · by_cases hv : v = Memory.blank <;> simp [h2, hv, Memory.within, h.1] <;>
          simpa [Memory.within] using h.2
      · have := ih h.2
        simp only [h1, h2, if_false, Memory.within, List.all_cons, Bool.and_eq_true,
          decide_eq_true_eq]
        exact ⟨h.1, this⟩

/-- Two memories in canonical form that read the same everywhere are equal. -/
theorem Memory.eq_of_read_eq (m m' : Memory) (h : m.wf = true) (h' : m'.wf = true)
    (hr : ∀ a, Memory.read m a = Memory.read m' a) : m = m' := by
  suffices H : ∀ n, Memory.wfFrom n m = true → Memory.wfFrom n m' = true → m = m' from H 0 h h'
  clear h h'
  induction m generalizing m' with
  | nil =>
    intro n _ h'
    cases m' with
    | nil => rfl
    | cons c m' =>
      obtain ⟨k, v⟩ := c
      simp only [Memory.wfFrom, Bool.and_eq_true, bne_iff_ne] at h'
      have := hr k
      simp only [Memory.read, if_true] at this
      exact absurd this.symm h'.1.2
  | cons c m ih =>
    obtain ⟨k, v⟩ := c
    intro n h h'
    simp only [Memory.wfFrom, Bool.and_eq_true, decide_eq_true_eq, bne_iff_ne] at h
    cases m' with
    | nil =>
      have := hr k
      simp only [Memory.read, if_true] at this
      exact absurd this h.1.2
    | cons c' m' =>
      obtain ⟨k', v'⟩ := c'
      simp only [Memory.wfFrom, Bool.and_eq_true, decide_eq_true_eq, bne_iff_ne] at h'
      have hk : k = k' := by
        rcases Nat.lt_trichotomy k k' with hlt | he | hgt
        · have := hr k
          have hne : k' ≠ k := by omega
          simp only [Memory.read, if_true, hne, if_false] at this
          rw [Memory.read_below m' k (k' + 1) h'.2 (by omega)] at this
          exact absurd this h.1.2
        · exact he
        · have := hr k'
          have hne : k ≠ k' := by omega
          simp only [Memory.read, if_true, hne, if_false] at this
          rw [Memory.read_below m k' (k + 1) h.2 (by omega)] at this
          exact absurd this.symm h'.1.2
      subst hk
      have hv : v = v' := by simpa [Memory.read] using hr k
      subst hv
      congr 1
      refine ih m' ?_ (k + 1) h.2 h'.2
      intro a
      by_cases ha : k = a
      · subst ha
        rw [Memory.read_below m k (k + 1) h.2 (by omega), Memory.read_below m' k (k + 1) h'.2 (by omega)]
      · simpa [Memory.read, ha] using hr a

end Sys2Proof.Machine
end

