-- ==== Sys2Proof/Laws/State.lean ====
section
/-! SUPPORT. One lemma per field per update, each true by rfl (or by cases on a register's name), so
that no later proof unfolds a record update. -/

namespace Sys2Proof.Machine

@[simp] theorem State.setReg_params (s : State) (r : Reg8) (v : Byte) : (s.setReg r v).params = s.params := by cases r <;> rfl
@[simp] theorem State.setReg_irq (s : State) (r : Reg8) (v : Byte) : (s.setReg r v).irq = s.irq := by cases r <;> rfl
@[simp] theorem State.setReg_ppu (s : State) (r : Reg8) (v : Byte) : (s.setReg r v).ppu = s.ppu := by cases r <;> rfl
@[simp] theorem State.setReg_hdma (s : State) (r : Reg8) (v : Byte) : (s.setReg r v).hdma = s.hdma := by cases r <;> rfl
@[simp] theorem State.setReg_mem (s : State) (r : Reg8) (v : Byte) : (s.setReg r v).mem = s.mem := by cases r <;> rfl
@[simp] theorem State.setReg_lcd (s : State) (r : Reg8) (v : Byte) : (s.setReg r v).lcd = s.lcd := by cases r <;> rfl
@[simp] theorem State.setReg_env (s : State) (r : Reg8) (v : Byte) : (s.setReg r v).env = s.env := by cases r <;> rfl
@[simp] theorem State.setReg_cycles (s : State) (r : Reg8) (v : Byte) : (s.setReg r v).cycles = s.cycles := by cases r <;> rfl
@[simp] theorem State.setReg_cpu_sp (s : State) (r : Reg8) (v : Byte) : (s.setReg r v).cpu.sp = s.cpu.sp := by cases r <;> rfl
@[simp] theorem State.setReg_cpu_pc (s : State) (r : Reg8) (v : Byte) : (s.setReg r v).cpu.pc = s.cpu.pc := by cases r <;> rfl
@[simp] theorem State.setReg_cpu_ime (s : State) (r : Reg8) (v : Byte) : (s.setReg r v).cpu.ime = s.cpu.ime := by cases r <;> rfl
@[simp] theorem State.setReg_cpu_imeSched (s : State) (r : Reg8) (v : Byte) : (s.setReg r v).cpu.imeSched = s.cpu.imeSched := by cases r <;> rfl
@[simp] theorem State.setReg_cpu_halted (s : State) (r : Reg8) (v : Byte) : (s.setReg r v).cpu.halted = s.cpu.halted := by cases r <;> rfl
@[simp] theorem State.setReg_cpu_holdPc (s : State) (r : Reg8) (v : Byte) : (s.setReg r v).cpu.holdPc = s.cpu.holdPc := by cases r <;> rfl
@[simp] theorem State.setReg_cpu_f (s : State) (r : Reg8) (v : Byte) : (s.setReg r v).cpu.f = s.cpu.f := by cases r <;> rfl

@[simp] theorem State.setF_params (s : State) (v : Byte) : (s.setF v).params = s.params := rfl
@[simp] theorem State.setF_irq (s : State) (v : Byte) : (s.setF v).irq = s.irq := rfl
@[simp] theorem State.setF_ppu (s : State) (v : Byte) : (s.setF v).ppu = s.ppu := rfl
@[simp] theorem State.setF_hdma (s : State) (v : Byte) : (s.setF v).hdma = s.hdma := rfl
@[simp] theorem State.setF_mem (s : State) (v : Byte) : (s.setF v).mem = s.mem := rfl
@[simp] theorem State.setF_lcd (s : State) (v : Byte) : (s.setF v).lcd = s.lcd := rfl
@[simp] theorem State.setF_env (s : State) (v : Byte) : (s.setF v).env = s.env := rfl
@[simp] theorem State.setF_cycles (s : State) (v : Byte) : (s.setF v).cycles = s.cycles := rfl
@[simp] theorem State.setF_cpu_sp (s : State) (v : Byte) : (s.setF v).cpu.sp = s.cpu.sp := rfl
@[simp] theorem State.setF_cpu_pc (s : State) (v : Byte) : (s.setF v).cpu.pc = s.cpu.pc := rfl
@[simp] theorem State.setF_cpu_ime (s : State) (v : Byte) : (s.setF v).cpu.ime = s.cpu.ime := rfl
@[simp] theorem State.setF_cpu_imeSched (s : State) (v : Byte) : (s.setF v).cpu.imeSched = s.cpu.imeSched := rfl
@[simp] theorem State.setF_cpu_halted (s : State) (v : Byte) : (s.setF v).cpu.halted = s.cpu.halted := rfl
@[simp] theorem State.setF_cpu_holdPc (s : State) (v : Byte) : (s.setF v).cpu.holdPc = s.cpu.holdPc := rfl

@[simp] theorem State.setPc_params (s : State) (v : Word) : (s.setPc v).params = s.params := rfl
@[simp] theorem State.setPc_irq (s : State) (v : Word) : (s.setPc v).irq = s.irq := rfl
@[simp] theorem State.setPc_ppu (s : State) (v : Word) : (s.setPc v).ppu = s.ppu := rfl
@[simp] theorem State.setPc_hdma (s : State) (v : Word) : (s.setPc v).hdma = s.hdma := rfl
@[simp] theorem State.setPc_mem (s : State) (v : Word) : (s.setPc v).mem = s.mem := rfl
@[simp] theorem State.setPc_lcd (s : State) (v : Word) : (s.setPc v).lcd = s.lcd := rfl
@[simp] theorem State.setPc_env (s : State) (v : Word) : (s.setPc v).env = s.env := rfl
@[simp] theorem State.setPc_cycles (s : State) (v : Word) : (s.setPc v).cycles = s.cycles := rfl
@[simp] theorem State.setPc_cpu_sp (s : State) (v : Word) : (s.setPc v).cpu.sp = s.cpu.sp := rfl
@[simp] theorem State.setPc_cpu_ime (s : State) (v : Word) : (s.setPc v).cpu.ime = s.cpu.ime := rfl
@[simp] theorem State.setPc_cpu_imeSched (s : State) (v : Word) : (s.setPc v).cpu.imeSched = s.cpu.imeSched := rfl
@[simp] theorem State.setPc_cpu_halted (s : State) (v : Word) : (s.setPc v).cpu.halted = s.cpu.halted := rfl
@[simp] theorem State.setPc_cpu_holdPc (s : State) (v : Word) : (s.setPc v).cpu.holdPc = s.cpu.holdPc := rfl
@[simp] theorem State.setPc_cpu_f (s : State) (v : Word) : (s.setPc v).cpu.f = s.cpu.f := rfl

@[simp] theorem State.setSp_params (s : State) (v : Word) : (s.setSp v).params = s.params := rfl
@[simp] theorem State.setSp_irq (s : State) (v : Word) : (s.setSp v).irq = s.irq := rfl
@[simp] theorem State.setSp_ppu (s : State) (v : Word) : (s.setSp v).ppu = s.ppu := rfl
@[simp] theorem State.setSp_hdma (s : State) (v : Word) : (s.setSp v).hdma = s.hdma := rfl
@[simp] theorem State.setSp_mem (s : State) (v : Word) : (s.setSp v).mem = s.mem := rfl
@[simp] theorem State.setSp_lcd (s : State) (v : Word) : (s.setSp v).lcd = s.lcd := rfl
@[simp] theorem State.setSp_env (s : State) (v : Word) : (s.setSp v).env = s.env := rfl
@[simp] theorem State.setSp_cycles (s : State) (v : Word) : (s.setSp v).cycles = s.cycles := rfl
@[simp] theorem State.setSp_cpu_pc (s : State) (v : Word) : (s.setSp v).cpu.pc = s.cpu.pc := rfl
@[simp] theorem State.setSp_cpu_ime (s : State) (v : Word) : (s.setSp v).cpu.ime = s.cpu.ime := rfl
@[simp] theorem State.setSp_cpu_imeSched (s : State) (v : Word) : (s.setSp v).cpu.imeSched = s.cpu.imeSched := rfl
@[simp] theorem State.setSp_cpu_halted (s : State) (v : Word) : (s.setSp v).cpu.halted = s.cpu.halted := rfl
@[simp] theorem State.setSp_cpu_holdPc (s : State) (v : Word) : (s.setSp v).cpu.holdPc = s.cpu.holdPc := rfl
@[simp] theorem State.setSp_cpu_f (s : State) (v : Word) : (s.setSp v).cpu.f = s.cpu.f := rfl

@[simp] theorem State.setHl_params (s : State) (v : Word) : (s.setHl v).params = s.params := rfl
@[simp] theorem State.setHl_irq (s : State) (v : Word) : (s.setHl v).irq = s.irq := rfl
@[simp] theorem State.setHl_ppu (s : State) (v : Word) : (s.setHl v).ppu = s.ppu := rfl
@[simp] theorem State.setHl_hdma (s : State) (v : Word) : (s.setHl v).hdma = s.hdma := rfl
@[simp] theorem State.setHl_mem (s : State) (v : Word) : (s.setHl v).mem = s.mem := rfl
@[simp] theorem State.setHl_lcd (s : State) (v : Word) : (s.setHl v).lcd = s.lcd := rfl
@[simp] theorem State.setHl_env (s : State) (v : Word) : (s.setHl v).env = s.env := rfl
@[simp] theorem State.setHl_cycles (s : State) (v : Word) : (s.setHl v).cycles = s.cycles := rfl
@[simp] theorem State.setHl_cpu_sp (s : State) (v : Word) : (s.setHl v).cpu.sp = s.cpu.sp := rfl
@[simp] theorem State.setHl_cpu_pc (s : State) (v : Word) : (s.setHl v).cpu.pc = s.cpu.pc := rfl
@[simp] theorem State.setHl_cpu_ime (s : State) (v : Word) : (s.setHl v).cpu.ime = s.cpu.ime := rfl
@[simp] theorem State.setHl_cpu_imeSched (s : State) (v : Word) : (s.setHl v).cpu.imeSched = s.cpu.imeSched := rfl
@[simp] theorem State.setHl_cpu_halted (s : State) (v : Word) : (s.setHl v).cpu.halted = s.cpu.halted := rfl
@[simp] theorem State.setHl_cpu_holdPc (s : State) (v : Word) : (s.setHl v).cpu.holdPc = s.cpu.holdPc := rfl
@[simp] theorem State.setHl_cpu_f (s : State) (v : Word) : (s.setHl v).cpu.f = s.cpu.f := rfl

@[simp] theorem State.setPair_params (s : State) (p : Pair) (v : Word) : (s.setPair p v).params = s.params := by cases p <;> rfl
@[simp] theorem State.setPair_irq (s : State) (p : Pair) (v : Word) : (s.setPair p v).irq = s.irq := by cases p <;> rfl
@[simp] theorem State.setPair_ppu (s : State) (p : Pair) (v : Word) : (s.setPair p v).ppu = s.ppu := by cases p <;> rfl
@[simp] theorem State.setPair_hdma (s : State) (p : Pair) (v : Word) : (s.setPair p v).hdma = s.hdma := by cases p <;> rfl
@[simp] theorem State.setPair_mem (s : State) (p : Pair) (v : Word) : (s.setPair p v).mem = s.mem := by cases p <;> rfl
@[simp] theorem State.setPair_lcd (s : State) (p : Pair) (v : Word) : (s.setPair p v).lcd = s.lcd := by cases p <;> rfl
@[simp] theorem State.setPair_env (s : State) (p : Pair) (v : Word) : (s.setPair p v).env = s.env := by cases p <;> rfl
@[simp] theorem State.setPair_cycles (s : State) (p : Pair) (v : Word) : (s.setPair p v).cycles = s.cycles := by cases p <;> rfl
@[simp] theorem State.setPair_cpu_pc (s : State) (p : Pair) (v : Word) : (s.setPair p v).cpu.pc = s.cpu.pc := by cases p <;> rfl
@[simp] theorem State.setPair_cpu_ime (s : State) (p : Pair) (v : Word) : (s.setPair p v).cpu.ime = s.cpu.ime := by cases p <;> rfl
@[simp] theorem State.setPair_cpu_imeSched (s : State) (p : Pair) (v : Word) : (s.setPair p v).cpu.imeSched = s.cpu.imeSched := by cases p <;> rfl
@[simp] theorem State.setPair_cpu_halted (s : State) (p : Pair) (v : Word) : (s.setPair p v).cpu.halted = s.cpu.halted := by cases p <;> rfl
@[simp] theorem State.setPair_cpu_holdPc (s : State) (p : Pair) (v : Word) : (s.setPair p v).cpu.holdPc = s.cpu.holdPc := by cases p <;> rfl
@[simp] theorem State.setPair_cpu_f (s : State) (p : Pair) (v : Word) : (s.setPair p v).cpu.f = s.cpu.f := by cases p <;> rfl

@[simp] theorem State.setStackPair_params (s : State) (p : StackPair) (v : Word) : (s.setStackPair p v).params = s.params := by cases p <;> rfl
@[simp] theorem State.setStackPair_irq (s : State) (p : StackPair) (v : Word) : (s.setStackPair p v).irq = s.irq := by cases p <;> rfl
@[simp] theorem State.setStackPair_ppu (s : State) (p : StackPair) (v : Word) : (s.setStackPair p v).ppu = s.ppu := by cases p <;> rfl
@[simp] theorem State.setStackPair_hdma (s : State) (p : StackPair) (v : Word) : (s.setStackPair p v).hdma = s.hdma := by cases p <;> rfl
@[simp] theorem State.setStackPair_mem (s : State) (p : StackPair) (v : Word) : (s.setStackPair p v).mem = s.mem := by cases p <;> rfl
@[simp] theorem State.setStackPair_lcd (s : State) (p : StackPair) (v : Word) : (s.setStackPair p v).lcd = s.lcd := by cases p <;> rfl
@[simp] theorem State.setStackPair_env (s : State) (p : StackPair) (v : Word) : (s.setStackPair p v).env = s.env := by cases p <;> rfl
@[simp] theorem State.setStackPair_cycles (s : State) (p : StackPair) (v : Word) : (s.setStackPair p v).cycles = s.cycles := by cases p <;> rfl
@[simp] theorem State.setStackPair_cpu_sp (s : State) (p : StackPair) (v : Word) : (s.setStackPair p v).cpu.sp = s.cpu.sp := by cases p <;> rfl
@[simp] theorem State.setStackPair_cpu_pc (s : State) (p : StackPair) (v : Word) : (s.setStackPair p v).cpu.pc = s.cpu.pc := by cases p <;> rfl
@[simp] theorem State.setStackPair_cpu_ime (s : State) (p : StackPair) (v : Word) : (s.setStackPair p v).cpu.ime = s.cpu.ime := by cases p <;> rfl
@[simp] theorem State.setStackPair_cpu_imeSched (s : State) (p : StackPair) (v : Word) : (s.setStackPair p v).cpu.imeSched = s.cpu.imeSched := by cases p <;> rfl
@[simp] theorem State.setStackPair_cpu_halted (s : State) (p : StackPair) (v : Word) : (s.setStackPair p v).cpu.halted = s.cpu.halted := by cases p <;> rfl
@[simp] theorem State.setStackPair_cpu_holdPc (s : State) (p : StackPair) (v : Word) : (s.setStackPair p v).cpu.holdPc = s.cpu.holdPc := by cases p <;> rfl

@[simp] theorem State.setF_cpu (s : State) (v : Byte) : (s.setF v).cpu = { s.cpu with f := v } := rfl
@[simp] theorem State.setPc_cpu (s : State) (v : Word) : (s.setPc v).cpu = { s.cpu with pc := v } := rfl
@[simp] theorem State.setSp_cpu (s : State) (v : Word) : (s.setSp v).cpu = { s.cpu with sp := v } := rfl
@[simp] theorem State.setHl_cpu (s : State) (v : Word) :
    (s.setHl v).cpu = { s.cpu with h := hi v, l := lo v } := rfl

/-- A register reads back what was written to it. -/
@[simp] theorem State.reg_setReg_same (s : State) (r : Reg8) (v : Byte) : (s.setReg r v).reg r = v := by
  cases r <;> rfl

/-- Writing a register leaves every other one alone. -/
theorem State.reg_setReg_other (s : State) (r q : Reg8) (v : Byte) (h : q ≠ r) :
    (s.setReg r v).reg q = s.reg q := by
  cases r <;> cases q <;> first | rfl | exact absurd rfl h

@[simp] theorem State.reg_setF (s : State) (v : Byte) (r : Reg8) : (s.setF v).reg r = s.reg r := by
  cases r <;> rfl
@[simp] theorem State.reg_setPc (s : State) (v : Word) (r : Reg8) : (s.setPc v).reg r = s.reg r := by
  cases r <;> rfl
@[simp] theorem State.reg_setSp (s : State) (v : Word) (r : Reg8) : (s.setSp v).reg r = s.reg r := by
  cases r <;> rfl

theorem toNat_word (h l : Byte) : (word h l).toNat = h.toNat * 256 + l.toNat := by
  unfold word
  rw [BitVec.toNat_append, Nat.shiftLeft_eq, Nat.mul_comm, ← Nat.two_pow_add_eq_or_of_lt l.isLt]

theorem toNat_lo (w : Word) : (lo w).toNat = w.toNat % 256 := by simp [lo]

theorem toNat_hi (w : Word) : (hi w).toNat = w.toNat / 256 := by
  have := w.isLt
  simp only [hi, BitVec.extractLsb'_toNat, Nat.shiftRight_eq_div_pow]
  omega

@[simp] theorem lo_word (h l : Byte) : lo (word h l) = l := by
  apply BitVec.eq_of_toNat_eq
  have := l.isLt
  rw [toNat_lo, toNat_word]
  omega

@[simp] theorem hi_word (h l : Byte) : hi (word h l) = h := by
  apply BitVec.eq_of_toNat_eq
  have := l.isLt
  rw [toNat_hi, toNat_word]
  omega

@[simp] theorem word_hi_lo (w : Word) : word (hi w) (lo w) = w := by
  apply BitVec.eq_of_toNat_eq
  rw [toNat_word, toNat_hi, toNat_lo]
  omega

/-- A pair reads back what was written to it, and AF without the low nibble of F (R355). -/
@[simp] theorem State.pair_setPair_same (s : State) (p : Pair) (v : Word) :
    (s.setPair p v).pair p = v := by
  cases p <;> simp [State.setPair, State.setHl, State.setSp, State.pair, State.bc, State.de, State.hl]

@[simp] theorem finish_eq (c : Nat) (s : State) : finish c s = .next { s with cycles := c } := rfl

/-! Power-on, field by field (R72), and the external posts, which reach IF and the list only (R504). -/

section PowerOn
variable (p : Params) (regs : InitRegs) (m : Mems) (posts : List (BitVec 3))
@[simp] theorem State.powerOn_params : (State.powerOn p regs m posts).params = p := rfl
@[simp] theorem State.powerOn_cpu :
    (State.powerOn p regs m posts).cpu = { regs.cpu with pc := 0x0100, sp := 0xFFFE } := rfl
@[simp] theorem State.powerOn_irq : (State.powerOn p regs m posts).irq = regs.irq := rfl
@[simp] theorem State.powerOn_ppu :
    (State.powerOn p regs m posts).ppu = { regs.ppu with lcdc := regs.ppu.lcdc ||| 0x80 } := rfl
@[simp] theorem State.powerOn_hdma : (State.powerOn p regs m posts).hdma = regs.hdma := rfl
@[simp] theorem State.powerOn_mem : (State.powerOn p regs m posts).mem = m := rfl
@[simp] theorem State.powerOn_lcd : (State.powerOn p regs m posts).lcd = Lcd.reset p.gray := rfl
@[simp] theorem State.powerOn_env_posts : (State.powerOn p regs m posts).env.posts = posts := rfl
end PowerOn

theorem State.takePosts_eq (s : State) :
    s.takePosts = { s with irq.flags := s.takePosts.irq.flags, env.posts := s.env.posts.tail } := by
  unfold State.takePosts
  split <;> rename_i h
  · rw [h]
    show s = { s with env.posts := [] }
    rw [← h]
  · rw [h]
    rfl

end Sys2Proof.Machine
end

