-- ==== Sys2Proof/Laws/Bus.lean ====
section
/-! SUPPORT. What a bus access does to each field of the state: a read (`touch`) draws at most a device
byte, a store (`set8`) never reaches the CPU, the parameters or the external posts. -/

namespace Sys2Proof.Machine

@[simp] theorem State.touch_params (s : State) (a : Word) : (s.touch a).params = s.params := by
  unfold State.touch; split <;> rfl
@[simp] theorem State.touch_cpu (s : State) (a : Word) : (s.touch a).cpu = s.cpu := by
  unfold State.touch; split <;> rfl
@[simp] theorem State.touch_irq (s : State) (a : Word) : (s.touch a).irq = s.irq := by
  unfold State.touch; split <;> rfl
@[simp] theorem State.touch_ppu (s : State) (a : Word) : (s.touch a).ppu = s.ppu := by
  unfold State.touch; split <;> rfl
@[simp] theorem State.touch_hdma (s : State) (a : Word) : (s.touch a).hdma = s.hdma := by
  unfold State.touch; split <;> rfl
@[simp] theorem State.touch_mem (s : State) (a : Word) : (s.touch a).mem = s.mem := by
  unfold State.touch; split <;> rfl
@[simp] theorem State.touch_lcd (s : State) (a : Word) : (s.touch a).lcd = s.lcd := by
  unfold State.touch; split <;> rfl
@[simp] theorem State.touch_cycles (s : State) (a : Word) : (s.touch a).cycles = s.cycles := by
  unfold State.touch; split <;> rfl
@[simp] theorem State.touch_env_posts (s : State) (a : Word) : (s.touch a).env.posts = s.env.posts := by
  unfold State.touch; split <;> rfl
@[simp] theorem State.touch_env_cartLog (s : State) (a : Word) : (s.touch a).env.cartLog = s.env.cartLog := by
  unfold State.touch; split <;> rfl

@[simp] theorem State.touch_reg (s : State) (a : Word) (r : Reg8) : (s.touch a).reg r = s.reg r := by
  cases r <;> simp [State.reg]
@[simp] theorem State.touch_hl (s : State) (a : Word) : (s.touch a).hl = s.hl := by simp [State.hl]
@[simp] theorem State.touch_pend (s : State) (a : Word) : (s.touch a).pend = s.pend := by
  simp [State.pend]

/-- A bus read changes the record of device bytes drawn and nothing else. -/
theorem State.touch_eq (s : State) (a : Word) :
    s.touch a = { s with env.draws := (s.touch a).env.draws } := by
  unfold State.touch; split <;> rfl

/-- A bus read of what no device draws changes nothing. -/
theorem State.touch_of_not_draws (s : State) (a : Word) (h : s.drawsAt (route a) = false) :
    s.touch a = s := by simp [State.touch, h]

/-- No bus access depends on the CPU's registers or on the dots of the last step. -/
theorem State.drawsAt_cpu (s : State) (c : Cpu) (n : Nat) (r : Region) :
    State.drawsAt { s with cpu := c, cycles := n } r = s.drawsAt r := by cases r <;> rfl

theorem State.peek_cpu (s : State) (c : Cpu) (n : Nat) (a : Word) :
    State.peek { s with cpu := c, cycles := n } a = s.peek a := by
  unfold State.peek
  cases route a with
  | io r => cases r <;> rfl
  | _ => rfl

theorem State.touch_cpu_comm (s : State) (c : Cpu) (n : Nat) (a : Word) :
    State.touch { s with cpu := c, cycles := n } a =
      { s.touch a with cpu := c, cycles := n } := by
  unfold State.touch
  rw [State.drawsAt_cpu]
  split <;> rfl

/-- What a read returns does not depend on the record of draws, where no device draws. -/
theorem State.peek_draws (s : State) (n : List Draw) (a : Word) (h : s.drawsAt (route a) = false) :
    State.peek { s with env.draws := n } a = s.peek a := by
  unfold State.peek
  generalize route a = r at h
  cases r with
  | cart k =>
    simp only [State.drawsAt, Bool.not_eq_false'] at h
    have h' : State.cartKnown { s with env.draws := n } = true := h
    simp only [State.readRegion, State.readCart, h, h', if_true]
  | io r =>
    cases r <;> first | rfl | simp [State.drawsAt] at h
  | _ => rfl

@[simp] theorem State.writeMem_params (s : State) (v : Byte) (r : Region) :
    (s.writeMem v r).params = s.params := by
  cases r <;> simp only [State.writeMem, State.writeCart, State.writeVram] <;> (repeat' split) <;> rfl
@[simp] theorem State.writeMem_cpu (s : State) (v : Byte) (r : Region) :
    (s.writeMem v r).cpu = s.cpu := by
  cases r <;> simp only [State.writeMem, State.writeCart, State.writeVram] <;> (repeat' split) <;> rfl
@[simp] theorem State.writeMem_irq_flags (s : State) (v : Byte) (r : Region) :
    (s.writeMem v r).irq.flags = s.irq.flags := by
  cases r <;> simp only [State.writeMem, State.writeCart, State.writeVram] <;> (repeat' split) <;> rfl
@[simp] theorem State.writeMem_ppu (s : State) (v : Byte) (r : Region) :
    (s.writeMem v r).ppu = s.ppu := by
  cases r <;> simp only [State.writeMem, State.writeCart, State.writeVram] <;> (repeat' split) <;> rfl
@[simp] theorem State.writeMem_hdma (s : State) (v : Byte) (r : Region) :
    (s.writeMem v r).hdma = s.hdma := by
  cases r <;> simp only [State.writeMem, State.writeCart, State.writeVram] <;> (repeat' split) <;> rfl
@[simp] theorem State.writeMem_lcd (s : State) (v : Byte) (r : Region) :
    (s.writeMem v r).lcd = s.lcd := by
  cases r <;> simp only [State.writeMem, State.writeCart, State.writeVram] <;> (repeat' split) <;> rfl
@[simp] theorem State.writeMem_cycles (s : State) (v : Byte) (r : Region) :
    (s.writeMem v r).cycles = s.cycles := by
  cases r <;> simp only [State.writeMem, State.writeCart, State.writeVram] <;> (repeat' split) <;> rfl
@[simp] theorem State.writeMem_env_posts (s : State) (v : Byte) (r : Region) :
    (s.writeMem v r).env.posts = s.env.posts := by
  cases r <;> simp only [State.writeMem, State.writeCart, State.writeVram] <;> (repeat' split) <;> rfl
@[simp] theorem State.writeMem_env_draws (s : State) (v : Byte) (r : Region) :
    (s.writeMem v r).env.draws = s.env.draws := by
  cases r <;> simp only [State.writeMem, State.writeCart, State.writeVram] <;> (repeat' split) <;> rfl
@[simp] theorem State.writeMem_mem_bgPal (s : State) (v : Byte) (r : Region) :
    (s.writeMem v r).mem.bgPal = s.mem.bgPal := by
  cases r <;> simp only [State.writeMem, State.writeCart, State.writeVram] <;> (repeat' split) <;> rfl
@[simp] theorem State.writeMem_mem_objPal (s : State) (v : Byte) (r : Region) :
    (s.writeMem v r).mem.objPal = s.mem.objPal := by
  cases r <;> simp only [State.writeMem, State.writeCart, State.writeVram] <;> (repeat' split) <;> rfl

/-- The bytes of an OAM DMA change OAM and the record of draws only. -/
theorem State.oamDmaFrom_eq (p : Byte) (n i : Nat) (s : State) :
    State.oamDmaFrom p n i s = { s with
      mem.oam := (State.oamDmaFrom p n i s).mem.oam,
      env.draws := (State.oamDmaFrom p n i s).env.draws } := by
  induction n generalizing i s with
  | zero => rfl
  | succ n ih =>
    rw [State.oamDmaFrom, ih]
    simp [State.oamDmaByte, State.get8]

@[simp] theorem State.hdmaByte_hdma (s : State) (i : Nat) :
    (s.hdmaByte i).hdma = s.hdma := by
  simp [State.hdmaByte, State.get8]
@[simp] theorem State.hdmaByte_params (s : State) (i : Nat) :
    (s.hdmaByte i).params = s.params := by
  simp [State.hdmaByte, State.get8]
@[simp] theorem State.hdmaByte_cpu (s : State) (i : Nat) :
    (s.hdmaByte i).cpu = s.cpu := by
  simp [State.hdmaByte, State.get8]
@[simp] theorem State.hdmaByte_irq_flags (s : State) (i : Nat) :
    (s.hdmaByte i).irq.flags = s.irq.flags := by
  simp [State.hdmaByte, State.get8]
@[simp] theorem State.hdmaByte_ppu (s : State) (i : Nat) :
    (s.hdmaByte i).ppu = s.ppu := by
  simp [State.hdmaByte, State.get8]
@[simp] theorem State.hdmaByte_lcd (s : State) (i : Nat) :
    (s.hdmaByte i).lcd = s.lcd := by
  simp [State.hdmaByte, State.get8]
@[simp] theorem State.hdmaByte_cycles (s : State) (i : Nat) :
    (s.hdmaByte i).cycles = s.cycles := by
  simp [State.hdmaByte, State.get8]
@[simp] theorem State.hdmaByte_env_posts (s : State) (i : Nat) :
    (s.hdmaByte i).env.posts = s.env.posts := by
  simp [State.hdmaByte, State.get8]
@[simp] theorem State.hdmaByte_mem_bgPal (s : State) (i : Nat) :
    (s.hdmaByte i).mem.bgPal = s.mem.bgPal := by
  simp [State.hdmaByte, State.get8]
@[simp] theorem State.hdmaByte_mem_objPal (s : State) (i : Nat) :
    (s.hdmaByte i).mem.objPal = s.mem.objPal := by
  simp [State.hdmaByte, State.get8]
@[simp] theorem State.hdmaBytes_hdma (n i : Nat) (s : State) :
    (State.hdmaBytes n i s).hdma = s.hdma := by
  induction n generalizing i s with
  | zero => rfl
  | succ n ih => rw [State.hdmaBytes, ih, State.hdmaByte_hdma]
@[simp] theorem State.hdmaBytes_params (n i : Nat) (s : State) :
    (State.hdmaBytes n i s).params = s.params := by
  induction n generalizing i s with
  | zero => rfl
  | succ n ih => rw [State.hdmaBytes, ih, State.hdmaByte_params]
@[simp] theorem State.hdmaBytes_cpu (n i : Nat) (s : State) :
    (State.hdmaBytes n i s).cpu = s.cpu := by
  induction n generalizing i s with
  | zero => rfl
  | succ n ih => rw [State.hdmaBytes, ih, State.hdmaByte_cpu]
@[simp] theorem State.hdmaBytes_irq_flags (n i : Nat) (s : State) :
    (State.hdmaBytes n i s).irq.flags = s.irq.flags := by
  induction n generalizing i s with
  | zero => rfl
  | succ n ih => rw [State.hdmaBytes, ih, State.hdmaByte_irq_flags]
@[simp] theorem State.hdmaBytes_ppu (n i : Nat) (s : State) :
    (State.hdmaBytes n i s).ppu = s.ppu := by
  induction n generalizing i s with
  | zero => rfl
  | succ n ih => rw [State.hdmaBytes, ih, State.hdmaByte_ppu]
@[simp] theorem State.hdmaBytes_lcd (n i : Nat) (s : State) :
    (State.hdmaBytes n i s).lcd = s.lcd := by
  induction n generalizing i s with
  | zero => rfl
  | succ n ih => rw [State.hdmaBytes, ih, State.hdmaByte_lcd]
@[simp] theorem State.hdmaBytes_cycles (n i : Nat) (s : State) :
    (State.hdmaBytes n i s).cycles = s.cycles := by
  induction n generalizing i s with
  | zero => rfl
  | succ n ih => rw [State.hdmaBytes, ih, State.hdmaByte_cycles]
@[simp] theorem State.hdmaBytes_env_posts (n i : Nat) (s : State) :
    (State.hdmaBytes n i s).env.posts = s.env.posts := by
  induction n generalizing i s with
  | zero => rfl
  | succ n ih => rw [State.hdmaBytes, ih, State.hdmaByte_env_posts]
@[simp] theorem State.hdmaBytes_mem_bgPal (n i : Nat) (s : State) :
    (State.hdmaBytes n i s).mem.bgPal = s.mem.bgPal := by
  induction n generalizing i s with
  | zero => rfl
  | succ n ih => rw [State.hdmaBytes, ih, State.hdmaByte_mem_bgPal]
@[simp] theorem State.hdmaBytes_mem_objPal (n i : Nat) (s : State) :
    (State.hdmaBytes n i s).mem.objPal = s.mem.objPal := by
  induction n generalizing i s with
  | zero => rfl
  | succ n ih => rw [State.hdmaBytes, ih, State.hdmaByte_mem_objPal]
@[simp] theorem State.hdmaBlock_params (s : State) :
    (s.hdmaBlock).params = s.params := by
  unfold State.hdmaBlock; cases s.params.hdmaEngine <;> simp
@[simp] theorem State.hdmaBlock_cpu (s : State) :
    (s.hdmaBlock).cpu = s.cpu := by
  unfold State.hdmaBlock; cases s.params.hdmaEngine <;> simp
@[simp] theorem State.hdmaBlock_irq_flags (s : State) :
    (s.hdmaBlock).irq.flags = s.irq.flags := by
  unfold State.hdmaBlock; cases s.params.hdmaEngine <;> simp
@[simp] theorem State.hdmaBlock_ppu (s : State) :
    (s.hdmaBlock).ppu = s.ppu := by
  unfold State.hdmaBlock; cases s.params.hdmaEngine <;> simp
@[simp] theorem State.hdmaBlock_lcd (s : State) :
    (s.hdmaBlock).lcd = s.lcd := by
  unfold State.hdmaBlock; cases s.params.hdmaEngine <;> simp
@[simp] theorem State.hdmaBlock_cycles (s : State) :
    (s.hdmaBlock).cycles = s.cycles := by
  unfold State.hdmaBlock; cases s.params.hdmaEngine <;> simp
@[simp] theorem State.hdmaBlock_env_posts (s : State) :
    (s.hdmaBlock).env.posts = s.env.posts := by
  unfold State.hdmaBlock; cases s.params.hdmaEngine <;> simp
@[simp] theorem State.hdmaBlock_mem_bgPal (s : State) :
    (s.hdmaBlock).mem.bgPal = s.mem.bgPal := by
  unfold State.hdmaBlock; cases s.params.hdmaEngine <;> simp
@[simp] theorem State.hdmaBlock_mem_objPal (s : State) :
    (s.hdmaBlock).mem.objPal = s.mem.objPal := by
  unfold State.hdmaBlock; cases s.params.hdmaEngine <;> simp
@[simp] theorem State.hdmaBlock_hdma (s : State) : s.hdmaBlock.hdma = s.hdma.advance := by
  unfold State.hdmaBlock; cases s.params.hdmaEngine <;> simp
@[simp] theorem State.hdmaBlocks_params (n : Nat) (s : State) :
    (State.hdmaBlocks n s).params = s.params := by
  induction n generalizing s with
  | zero => rfl
  | succ n ih => rw [State.hdmaBlocks, ih, State.hdmaBlock_params]
@[simp] theorem State.hdmaBlocks_cpu (n : Nat) (s : State) :
    (State.hdmaBlocks n s).cpu = s.cpu := by
  induction n generalizing s with
  | zero => rfl
  | succ n ih => rw [State.hdmaBlocks, ih, State.hdmaBlock_cpu]
@[simp] theorem State.hdmaBlocks_irq_flags (n : Nat) (s : State) :
    (State.hdmaBlocks n s).irq.flags = s.irq.flags := by
  induction n generalizing s with
  | zero => rfl
  | succ n ih => rw [State.hdmaBlocks, ih, State.hdmaBlock_irq_flags]
@[simp] theorem State.hdmaBlocks_ppu (n : Nat) (s : State) :
    (State.hdmaBlocks n s).ppu = s.ppu := by
  induction n generalizing s with
  | zero => rfl
  | succ n ih => rw [State.hdmaBlocks, ih, State.hdmaBlock_ppu]
@[simp] theorem State.hdmaBlocks_lcd (n : Nat) (s : State) :
    (State.hdmaBlocks n s).lcd = s.lcd := by
  induction n generalizing s with
  | zero => rfl
  | succ n ih => rw [State.hdmaBlocks, ih, State.hdmaBlock_lcd]
@[simp] theorem State.hdmaBlocks_cycles (n : Nat) (s : State) :
    (State.hdmaBlocks n s).cycles = s.cycles := by
  induction n generalizing s with
  | zero => rfl
  | succ n ih => rw [State.hdmaBlocks, ih, State.hdmaBlock_cycles]
@[simp] theorem State.hdmaBlocks_env_posts (n : Nat) (s : State) :
    (State.hdmaBlocks n s).env.posts = s.env.posts := by
  induction n generalizing s with
  | zero => rfl
  | succ n ih => rw [State.hdmaBlocks, ih, State.hdmaBlock_env_posts]
@[simp] theorem State.hdmaBlocks_mem_bgPal (n : Nat) (s : State) :
    (State.hdmaBlocks n s).mem.bgPal = s.mem.bgPal := by
  induction n generalizing s with
  | zero => rfl
  | succ n ih => rw [State.hdmaBlocks, ih, State.hdmaBlock_mem_bgPal]
@[simp] theorem State.hdmaBlocks_mem_objPal (n : Nat) (s : State) :
    (State.hdmaBlocks n s).mem.objPal = s.mem.objPal := by
  induction n generalizing s with
  | zero => rfl
  | succ n ih => rw [State.hdmaBlocks, ih, State.hdmaBlock_mem_objPal]
@[simp] theorem State.hdmaAtHblank_params (s : State) :
    (s.hdmaAtHblank).params = s.params := by
  unfold State.hdmaAtHblank; split <;> simp
@[simp] theorem State.hdmaAtHblank_cpu (s : State) :
    (s.hdmaAtHblank).cpu = s.cpu := by
  unfold State.hdmaAtHblank; split <;> simp
@[simp] theorem State.hdmaAtHblank_irq_flags (s : State) :
    (s.hdmaAtHblank).irq.flags = s.irq.flags := by
  unfold State.hdmaAtHblank; split <;> simp
@[simp] theorem State.hdmaAtHblank_ppu (s : State) :
    (s.hdmaAtHblank).ppu = s.ppu := by
  unfold State.hdmaAtHblank; split <;> simp
@[simp] theorem State.hdmaAtHblank_lcd (s : State) :
    (s.hdmaAtHblank).lcd = s.lcd := by
  unfold State.hdmaAtHblank; split <;> simp
@[simp] theorem State.hdmaAtHblank_cycles (s : State) :
    (s.hdmaAtHblank).cycles = s.cycles := by
  unfold State.hdmaAtHblank; split <;> simp
@[simp] theorem State.hdmaAtHblank_env_posts (s : State) :
    (s.hdmaAtHblank).env.posts = s.env.posts := by
  unfold State.hdmaAtHblank; split <;> simp
@[simp] theorem State.hdmaAtHblank_mem_bgPal (s : State) :
    (s.hdmaAtHblank).mem.bgPal = s.mem.bgPal := by
  unfold State.hdmaAtHblank; split <;> simp
@[simp] theorem State.hdmaAtHblank_mem_objPal (s : State) :
    (s.hdmaAtHblank).mem.objPal = s.mem.objPal := by
  unfold State.hdmaAtHblank; split <;> simp

@[simp] theorem State.set8_params (s : State) (a : Word) (v : Byte) : (s.set8 a v).params = s.params := by
  unfold State.set8
  cases route a with
  | io r =>
    cases r <;> simp only [State.writeRegion, State.writeIo, State.writeLcdc, State.writeDma,
      State.ifCgb, State.writeHdma5, State.writeBcpd, State.writeOcpd, State.lcdOff] <;>
      (repeat' split) <;> first | rfl | simp | (rw [State.oamDmaFrom_eq])
  | _ => exact State.writeMem_params s v _
@[simp] theorem State.set8_cpu (s : State) (a : Word) (v : Byte) : (s.set8 a v).cpu = s.cpu := by
  unfold State.set8
  cases route a with
  | io r =>
    cases r <;> simp only [State.writeRegion, State.writeIo, State.writeLcdc, State.writeDma,
      State.ifCgb, State.writeHdma5, State.writeBcpd, State.writeOcpd, State.lcdOff] <;>
      (repeat' split) <;> first | rfl | simp | (rw [State.oamDmaFrom_eq])
  | _ => exact State.writeMem_cpu s v _
@[simp] theorem State.set8_cycles (s : State) (a : Word) (v : Byte) : (s.set8 a v).cycles = s.cycles := by
  unfold State.set8
  cases route a with
  | io r =>
    cases r <;> simp only [State.writeRegion, State.writeIo, State.writeLcdc, State.writeDma,
      State.ifCgb, State.writeHdma5, State.writeBcpd, State.writeOcpd, State.lcdOff] <;>
      (repeat' split) <;> first | rfl | simp | (rw [State.oamDmaFrom_eq])
  | _ => exact State.writeMem_cycles s v _
@[simp] theorem State.set8_env_posts (s : State) (a : Word) (v : Byte) : (s.set8 a v).env.posts = s.env.posts := by
  unfold State.set8
  cases route a with
  | io r =>
    cases r <;> simp only [State.writeRegion, State.writeIo, State.writeLcdc, State.writeDma,
      State.ifCgb, State.writeHdma5, State.writeBcpd, State.writeOcpd, State.lcdOff] <;>
      (repeat' split) <;> first | rfl | simp | (rw [State.oamDmaFrom_eq])
  | _ => exact State.writeMem_env_posts s v _

/-- A store outside the I/O window is the store to the region. -/
theorem State.set8_of_not_io (s : State) (a : Word) (v : Byte) (h : ∀ r, route a ≠ .io r) :
    s.set8 a v = s.writeMem v (route a) := by
  unfold State.set8
  generalize route a = r at h
  cases r <;> first | rfl | exact absurd rfl (h _)

/-! The address of a region (R84). -/

theorem route_oam {a : Word} {k : Nat} (h : route a = .oam k) : a.toNat = 0xFE00 + k := by
  unfold route routeNat at h
  repeat' split at h
  all_goals simp only [Region.oam.injEq, reduceCtorEq] at h
  omega

theorem route_vram {a : Word} {k : Nat} (h : route a = .vram k) : a.toNat = 0x8000 + k := by
  unfold route routeNat at h
  repeat' split at h
  all_goals simp only [Region.vram.injEq, reduceCtorEq] at h
  omega

theorem route_hram {a : Word} {k : Nat} (h : route a = .hram k) : a.toNat = 0xFF80 + k := by
  unfold route routeNat at h
  repeat' split at h
  all_goals simp only [Region.hram.injEq, reduceCtorEq] at h
  omega

theorem route_wram {a : Word} {k : Nat} (h : route a = .wram k) :
    a.toNat = 0xC000 + k ∨ a.toNat = 0xE000 + k ∧ k < 0x1E00 := by
  unfold route routeNat at h
  repeat' split at h
  all_goals simp only [Region.wram.injEq, reduceCtorEq] at h
  all_goals omega

theorem route_cart {a : Word} {k : Nat} (h : route a = .cart k) : a.toNat = k := by
  unfold route routeNat at h
  repeat' split at h
  all_goals simp only [Region.cart.injEq, reduceCtorEq] at h
  all_goals exact h

theorem route_io {a : Word} {r : IoReg} (h : route a = .io r) :
    0xFF00 ≤ a.toNat ∧ a.toNat < 0xFF80 ∧ ioReg a.toNat = r := by
  unfold route routeNat at h
  repeat' split at h
  all_goals simp only [Region.io.injEq, reduceCtorEq] at h
  exact ⟨by omega, by omega, h⟩

/-- HDMA5 is at 0xFF55 only (R95). -/
theorem ioReg_hdma5 {n : Nat} (h : ioReg n = .hdma5) : n = 0xFF55 := by
  apply Decidable.byContradiction
  intro hn
  revert h
  unfold ioReg
  rw [if_neg hn]
  simp only [ite_eq_iff, reduceCtorEq, and_false, or_self, imp_false, not_false_eq_true]

/-! Bus accesses commute with a change of the CPU's registers and of the dots. -/

theorem State.oamDmaFrom_cpu_comm (p : Byte) (n i : Nat) (s : State) (c : Cpu) (k : Nat) :
    State.oamDmaFrom p n i { s with cpu := c, cycles := k } =
      { State.oamDmaFrom p n i s with cpu := c, cycles := k } := by
  induction n generalizing i s with
  | zero => rfl
  | succ n ih =>
    rw [State.oamDmaFrom, State.oamDmaFrom, ← ih]
    congr 1
    simp only [State.oamDmaByte, State.get8, State.peek_cpu, State.touch_cpu_comm]

theorem State.writeMem_cpu_comm (s : State) (c : Cpu) (k : Nat) (v : Byte) (r : Region) :
    State.writeMem { s with cpu := c, cycles := k } v r =
      { s.writeMem v r with cpu := c, cycles := k } := by
  cases r <;> simp only [State.writeMem, State.writeCart, State.writeVram]
  · (repeat' split) <;> rfl
  · have : State.bank1 { s with cpu := c, cycles := k } = s.bank1 := rfl
    rw [this]
    split <;> rfl

theorem State.hdmaBytes_cpu_comm (n i : Nat) (s : State) (c : Cpu) (k : Nat) :
    State.hdmaBytes n i { s with cpu := c, cycles := k } =
      { State.hdmaBytes n i s with cpu := c, cycles := k } := by
  induction n generalizing i s with
  | zero => rfl
  | succ n ih =>
    rw [State.hdmaBytes, State.hdmaBytes, ← ih]
    congr 1
    simp only [State.hdmaByte, State.get8, State.peek_cpu, State.touch_cpu_comm,
      State.writeMem_cpu_comm]

theorem State.hdmaBlock_cpu_comm (s : State) (c : Cpu) (k : Nat) :
    State.hdmaBlock { s with cpu := c, cycles := k } =
      { State.hdmaBlock s with cpu := c, cycles := k } := by
  unfold State.hdmaBlock
  cases s.params.hdmaEngine
  · simp only [State.hdmaBytes_cpu_comm]
  · rfl

theorem State.hdmaBlocks_cpu_comm (n : Nat) (s : State) (c : Cpu) (k : Nat) :
    State.hdmaBlocks n { s with cpu := c, cycles := k } =
      { State.hdmaBlocks n s with cpu := c, cycles := k } := by
  induction n generalizing s with
  | zero => rfl
  | succ n ih => rw [State.hdmaBlocks, State.hdmaBlocks, ← ih, State.hdmaBlock_cpu_comm]

theorem State.set8_cpu_comm (s : State) (c : Cpu) (k : Nat) (a : Word) (v : Byte) :
    State.set8 { s with cpu := c, cycles := k } a v =
      { s.set8 a v with cpu := c, cycles := k } := by
  by_cases h : ∃ r, route a = .io r
  · obtain ⟨r, h⟩ := h
    rw [State.set8, State.set8, h]
    simp only [State.writeRegion]
    cases r <;> simp only [State.writeIo, State.ifCgb] <;> try rfl
    · simp only [State.writeLcdc]
      split <;> rfl
    · simp only [State.writeDma]
      cases s.params.oamDma
      · exact State.oamDmaFrom_cpu_comm v 160 0 { s with ppu.dma := v } c k
      · rfl
    all_goals cases s.params.model
    all_goals try rfl
    simp only [State.writeHdma5]
    split
    · rfl
    · split
      · rfl
      · exact State.hdmaBlocks_cpu_comm _
          { s with hdma.remaining := (v &&& 0x7F) + 1, hdma.mode := .gdma } c k
  · have h : ∀ r, route a ≠ .io r := fun r e => h ⟨r, e⟩
    rw [State.set8_of_not_io _ _ _ h, State.set8_of_not_io _ _ _ h, State.writeMem_cpu_comm]

@[simp] theorem State.set8_reg (s : State) (a : Word) (v : Byte) (r : Reg8) :
    (s.set8 a v).reg r = s.reg r := by cases r <;> simp [State.reg]
@[simp] theorem State.set8_hl (s : State) (a : Word) (v : Byte) : (s.set8 a v).hl = s.hl := by
  simp [State.hl]

@[simp] theorem State.set16_params (s : State) (a v : Word) : (s.set16 a v).params = s.params := by
  simp [State.set16]
@[simp] theorem State.set16_cpu (s : State) (a v : Word) : (s.set16 a v).cpu = s.cpu := by
  simp [State.set16]
@[simp] theorem State.set16_cycles (s : State) (a v : Word) : (s.set16 a v).cycles = s.cycles := by
  simp [State.set16]
@[simp] theorem State.set16_env_posts (s : State) (a v : Word) : (s.set16 a v).env.posts = s.env.posts := by
  simp [State.set16]

/-- A push: two stores, with SP two lower. -/
theorem State.push16_eq (s : State) (v : Word) :
    s.push16 v = { ({ s with cpu.sp := s.cpu.sp - 2 }.set8 (s.cpu.sp - 2) (lo v)).set8
      (s.cpu.sp - 2 + 1) (hi v) with cpu := { s.cpu with sp := s.cpu.sp - 2 } } := by
  have h := State.set16_cpu (s.setSp (s.cpu.sp - 2)) (s.cpu.sp - 2) v
  show (s.setSp (s.cpu.sp - 2)).set16 (s.cpu.sp - 2) v = _
  generalize hx : (s.setSp (s.cpu.sp - 2)).set16 (s.cpu.sp - 2) v = x at h ⊢
  have hy : x = ({ s with cpu.sp := s.cpu.sp - 2 }.set8 (s.cpu.sp - 2) (lo v)).set8
      (s.cpu.sp - 2 + 1) (hi v) := hx.symm
  rw [← hy]
  cases x
  simp only at h
  rw [h]
  rfl

/-- A pop: two reads, with SP two higher. -/
theorem State.pop16_eq (s : State) :
    s.pop16 = (word ((s.touch s.cpu.sp).peek (s.cpu.sp + 1)) (s.peek s.cpu.sp),
      ((s.touch s.cpu.sp).touch (s.cpu.sp + 1)).setSp (s.cpu.sp + 2)) := rfl

end Sys2Proof.Machine
end

