-- ==== Sys2Proof/Laws/Decode.lean ====
section
/-! SUPPORT. The decoder and the encoder: what every cell of the two maps encodes as, and bytes after an
instruction. -/

namespace Sys2Proof

/-- What a cell of the base map at `op` has to be, for the encoder to agree with it. -/
def Fmt.EncodesAt (op : Byte) : Fmt → Prop
  | .op i => encode i = [op] ∧ wellFormed i = true
  | .imm8 f => ∀ n, encode (f n) = [op, n] ∧ wellFormed (f n) = true
  | .imm16 f => ∀ nn, encode (f nn) = [op, lo nn, hi nn] ∧ wellFormed (f nn) = true
  | .cbPrefix => op = 0xCB

theorem encodesAt_low (n : Nat) (h : n < 64) :
    (decodeOp (BitVec.ofNat 8 n)).EncodesAt (BitVec.ofNat 8 n) := by
  interval_cases n <;>
    first | exact ⟨rfl, rfl⟩ | exact fun _ => ⟨rfl, rfl⟩

theorem encodesAt_loads (n : Nat) (h : n < 64) :
    (decodeOp (BitVec.ofNat 8 (64 + n))).EncodesAt (BitVec.ofNat 8 (64 + n)) := by
  interval_cases n <;> exact ⟨rfl, rfl⟩

theorem encodesAt_alu (n : Nat) (h : n < 64) :
    (decodeOp (BitVec.ofNat 8 (128 + n))).EncodesAt (BitVec.ofNat 8 (128 + n)) := by
  interval_cases n <;> exact ⟨rfl, rfl⟩

theorem encodesAt_high (n : Nat) (h : n < 64) :
    (decodeOp (BitVec.ofNat 8 (192 + n))).EncodesAt (BitVec.ofNat 8 (192 + n)) := by
  interval_cases n <;>
    first | exact ⟨rfl, rfl⟩ | exact fun _ => ⟨rfl, rfl⟩ | rfl

/-- Every cell of the base map encodes as the byte that selects it (R142). -/
theorem decodeOp_encodesAt (op : Byte) : (decodeOp op).EncodesAt op := by
  have hlt := op.isLt
  have h0 : BitVec.ofNat 8 op.toNat = op := by simp
  rcases Nat.lt_or_ge op.toNat 64 with h | h
  · simpa [h0] using encodesAt_low op.toNat h
  rcases Nat.lt_or_ge op.toNat 128 with h2 | h2
  · simpa [Nat.add_sub_cancel' h, h0] using encodesAt_loads (op.toNat - 64) (by omega)
  rcases Nat.lt_or_ge op.toNat 192 with h3 | h3
  · simpa [Nat.add_sub_cancel' h2, h0] using encodesAt_alu (op.toNat - 128) (by omega)
  · simpa [Nat.add_sub_cancel' h3, h0] using encodesAt_high (op.toNat - 192) (by omega)

/-- Every cell of the CB map encodes as the prefix and the byte that selects it (R143, R151). -/
theorem encode_decodeCb (op2 : Byte) :
    encode (decodeCb op2) = [0xCB, op2] ∧ wellFormed (decodeCb op2) = true := by
  revert op2; decide +kernel

/-- Bytes after an instruction are left over. -/
theorem decode_append {bytes rest more : List Byte} {i : Instr} (h : decode bytes = .ok (i, rest)) :
    decode (bytes ++ more) = .ok (i, rest ++ more) := by
  cases bytes with
  | nil => cases h
  | cons op tail =>
    simp only [decode, List.cons_append] at h ⊢
    cases hf : decodeOp op with
    | op j =>
      rw [hf] at h
      simp only [Except.ok.injEq, Prod.mk.injEq] at h ⊢
      exact ⟨h.1, by rw [h.2]⟩
    | imm8 f =>
      rw [hf] at h
      rcases tail with _ | ⟨n, tail⟩
      · cases h
      · simp only [Except.ok.injEq, Prod.mk.injEq, List.cons_append] at h ⊢
        exact ⟨h.1, by rw [h.2]⟩
    | imm16 f =>
      rw [hf] at h
      rcases tail with _ | ⟨l, _ | ⟨u, tail⟩⟩
      · cases h
      · cases h
      · simp only [Except.ok.injEq, Prod.mk.injEq, List.cons_append] at h ⊢
        exact ⟨h.1, by rw [h.2]⟩
    | cbPrefix =>
      rw [hf] at h
      rcases tail with _ | ⟨n, tail⟩
      · cases h
      · simp only [Except.ok.injEq, Prod.mk.injEq, List.cons_append] at h ⊢
        exact ⟨h.1, by rw [h.2]⟩

end Sys2Proof
end

