-- ==== Sys2Proof/Laws/Forms.lean ====
section
/-! SUPPORT. `exec` by form: each of the 512 arms is one of 53 shared operations, so a proof about all
instructions is a proof about 53 cases. -/

namespace Sys2Proof.Machine

/-- The shared operation of a form. -/
def runForm (f : Form) (s : State) : Result :=
  match f with
  | .nop => noOperation 4 s
  | .illegal op => illegal op s
  | .stop => stop s
  | .halt => suspend s
  | .di => disableInterrupts s
  | .ei => enableInterrupts s
  | .ldRegReg dst r => ldRegReg dst r s
  | .ldRegImm dst n => ldRegImm dst n s
  | .ldRegMem dst => ldRegMem dst s
  | .ldMemReg r => ldMemReg r s
  | .ldMemImm n => ldMemImm n s
  | .loadA m => loadA (match m with | .bc | .de | .highC => 8 | .abs _ => 16 | .high _ => 12) (m.addr s) s
  | .storeA m =>
    storeA (match m with | .bc | .de | .highC => 8 | .abs _ => 16 | .high _ => 12) (m.addr s) s
  | .loadAStep up => loadAStep (if up then 1 else -1) s
  | .storeAStep up => storeAStep (if up then 1 else -1) s
  | .ldPairImm p nn => ldPairImm p nn s
  | .storeSp nn => storeSp nn s
  | .ldSpHl => ldSpFromHl s
  | .ldHlSp e => ldHlSpPlus e s
  | .addSp e => addSpOffset e s
  | .aluReg op r => aluReg op r s
  | .aluMem op => aluMem op s
  | .aluImm op n => aluImm op n s
  | .addHl p => addHlPair p s
  | .incPair p => incPair p s
  | .decPair p => decPair p s
  | .incReg r => incReg r s
  | .decReg r => decReg r s
  | .incMem => incMem s
  | .decMem => decMem s
  | .daa => daaA s
  | .cpl => cplA s
  | .scf => setCarry s
  | .ccf => flipCarry s
  | .rotA k => rotateA k s
  | .cbRot k z => cbRotate k z s
  | .cbBit b z => cbTest b.val z s
  | .cbRes b z => cbReset b.val z s
  | .cbSet b z => cbSet b.val z s
  | .jp nn => jump nn s
  | .jpIf cc nn => jumpIf cc nn s
  | .jpHl => jumpHl s
  | .jr e => jumpRel e s
  | .jrIf cc e => jumpRelIf cc e s
  | .call nn => call nn s
  | .callIf cc nn => callIf cc nn s
  | .ret => ret s
  | .retIf cc => retIf cc s
  | .reti => retFromInterrupt s
  | .rst y => restart (BitVec.ofNat 16 (8 * y.val)) s
  | .push p => pushPair p s
  | .pop p => popPair p s
  | .prefixed op2 => cbByFields op2 s

/-- Every arm of `exec` is the shared operation of its form. -/
theorem exec_eq_runForm (i : Instr) (s : State) : exec i s = runForm (formOf i) s := by
  cases i <;> rfl

/-- The form of the CB instruction with second byte `op2`, from its fields x, y and z (R139). -/
def cbForm (op2 : Byte) : Form :=
  let y := op2.extractLsb' 3 3
  let z := Operand.ofCode (op2.extractLsb' 0 3)
  match op2.extractLsb' 6 2 with
  | 0 => .cbRot (RotOp.ofCode y) z
  | 1 => .cbBit y.toFin z
  | 2 => .cbRes y.toFin z
  | 3 => .cbSet y.toFin z

/-- The CB table gives each second byte the form its fields say. -/
theorem formOf_decodeCb (op2 : Byte) : formOf (decodeCb op2) = cbForm op2 := by
  revert op2; decide +kernel

/-- The prefix runs the instruction its second byte selects (R373). -/
theorem cbByFields_eq (op2 : Byte) (s : State) : cbByFields op2 s = runForm (cbForm op2) s := by
  unfold cbByFields cbForm
  generalize op2.extractLsb' 6 2 = x
  match x with
  | 0 | 1 | 2 | 3 => rfl

theorem execPrefixCb_eq (op2 : Byte) (s : State) : exec (.prefixCb op2) s = exec (decodeCb op2) s := by
  rw [exec_eq_runForm (decodeCb op2), formOf_decodeCb, ← cbByFields_eq]
  rfl

/-- An instruction runs the operation of its form, the prefix apart. -/
theorem exec_eq_unprefixed (i : Instr) (s : State) : exec i s = runForm (formOf i).unprefixed s := by
  rw [exec_eq_runForm]
  cases h : formOf i with
  | prefixed op2 =>
    show cbByFields op2 s = runForm (formOf (decodeCb op2)) s
    rw [cbByFields_eq, formOf_decodeCb]
  | _ => rfl

/-- No form is the prefix once it is read with its second byte. -/
theorem unprefixed_ne_prefixed (f : Form) (op2 : Byte) : f.unprefixed ≠ .prefixed op2 := by
  cases f with
  | prefixed o =>
    show formOf (decodeCb o) ≠ _
    rw [formOf_decodeCb]
    unfold cbForm
    generalize o.extractLsb' 6 2 = x
    match x with
    | 0 | 1 | 2 | 3 => simp
  | _ => simp [Form.unprefixed]

end Sys2Proof.Machine
end

