-- ==== Sys2Proof/Laws/Effect.lean ====
section
/-! SUPPORT. What any instruction can do, said once: some reads and register writes, then its stores, one
at each address of `storedTo`, then register writes. Proofs about all instructions start from
`exec_effect`. -/

namespace Sys2Proof.Machine

/-- `t` differs from `s` in the CPU, the record of device bytes drawn and the dots only. -/
def Quiet (s t : State) : Prop :=
  t = { s with cpu := t.cpu, env.draws := t.env.draws, cycles := t.cycles }

theorem Quiet.refl (s : State) : Quiet s s := rfl

theorem Quiet.trans {s t u : State} (h : Quiet s t) (k : Quiet t u) : Quiet s u := by
  unfold Quiet at *
  rw [k, h]

theorem quiet_touch (s : State) (a : Word) : Quiet s (s.touch a) := by
  unfold Quiet
  rw [State.touch_eq]

theorem quiet_setReg (s : State) (r : Reg8) (v : Byte) : Quiet s (s.setReg r v) := by cases r <;> rfl

theorem quiet_setPair (s : State) (p : Pair) (v : Word) : Quiet s (s.setPair p v) := by cases p <;> rfl

theorem quiet_setStackPair (s : State) (p : StackPair) (v : Word) :
    Quiet s (s.setStackPair p v) := by cases p <;> rfl

theorem quiet_alu (s : State) (op : AluOp) (v : Byte) : Quiet s (s.alu op v) := by cases op <;> rfl

theorem quiet_pop (s : State) : Quiet s s.pop16.2 := by
  rw [State.pop16_eq]
  exact ((quiet_touch _ _).trans (quiet_touch _ _)).trans rfl

theorem quiet_getOperand (s : State) (z : Operand) : Quiet s (s.getOperand z).2 := by
  cases z with
  | reg r => rfl
  | indHl => exact quiet_touch _ _

/-- Where no device draws, a quiet change leaves every byte reading as before. -/
theorem Quiet.peek {s t : State} (h : Quiet s t) (a : Word) (d : s.drawsAt (route a) = false) :
    t.peek a = s.peek a := by
  rw [h]
  exact State.peek_draws { s with cpu := t.cpu, cycles := t.cycles } _ a d

/-- Stores made in order. -/
def State.storeAll (s : State) : List (Word × Byte) → State
  | [] => s
  | (a, v) :: ws => (s.set8 a v).storeAll ws

/-- The effect of an instruction: quiet changes, the stores `ws`, quiet changes. -/
def Effect (at_ : List Word) (s t : State) : Prop :=
  ∃ u ws, Quiet s u ∧ ws.map Prod.fst = at_ ∧ Quiet (u.storeAll ws) t

theorem Effect.quiet {s u t : State} {n : Nat} (h : finish n u = .next t) (q : Quiet s u) :
    Effect [] s t := by
  cases h
  exact ⟨u, [], q, rfl, rfl⟩

theorem Effect.store {s u w t : State} {n : Nat} {a : Word} {v : Byte} (h : finish n w = .next t)
    (q : Quiet s u) (p : Quiet (u.set8 a v) w) : Effect [a] s t := by
  cases h
  exact ⟨u, [(a, v)], q, rfl, p.trans rfl⟩

theorem Effect.word {s u w t : State} {n : Nat} {a v : Word} (h : finish n w = .next t)
    (q : Quiet s u) (p : Quiet (u.set16 a v) w) : Effect (wordAt a) s t := by
  cases h
  exact ⟨u, [(a, lo v), (a + 1, hi v)], q, rfl, p.trans rfl⟩

theorem runForm_effect (f : Form) (s t : State) (np : ∀ op2, f ≠ .prefixed op2)
    (e : runForm f s = .next t) : Effect (f.storedTo s) s t := by
  cases f with
  | nop | di | ei | ldSpHl | daa | cpl | scf | ccf | jpHl => exact .quiet e rfl
  | illegal op =>
    simp only [runForm, illegal] at e
    split at e
    · exact .quiet e rfl
    · cases e
  | stop =>
    simp only [runForm, stop] at e
    split at e
    · exact .quiet e rfl
    · cases e
  | halt =>
    simp only [runForm, suspend] at e
    split at e <;> exact .quiet e rfl
  | ldRegReg dst r => exact .quiet e (quiet_setReg _ _ _)
  | ldRegImm dst n => exact .quiet e (quiet_setReg _ _ _)
  | ldRegMem dst => exact .quiet e ((quiet_touch _ _).trans (quiet_setReg _ _ _))
  | ldMemReg r => exact .store e (.refl s) (.refl _)
  | ldMemImm n => exact .store e (.refl s) (.refl _)
  | loadA m => exact .quiet e ((quiet_touch _ _).trans (quiet_setReg _ _ _))
  | storeA m => exact .store e (.refl s) (.refl _)
  | loadAStep up => exact .quiet e (((quiet_touch _ _).trans (quiet_setReg _ _ _)).trans rfl)
  | storeAStep up => exact .store e (.refl s) rfl
  | ldPairImm p nn => exact .quiet e (quiet_setPair _ _ _)
  | storeSp nn => exact .word e (.refl s) (.refl _)
  | ldHlSp d => exact .quiet e rfl
  | addSp d => exact .quiet e rfl
  | aluReg op r => exact .quiet e (quiet_alu _ _ _)
  | aluMem op => exact .quiet e ((quiet_touch _ _).trans (quiet_alu _ _ _))
  | aluImm op n => exact .quiet e (quiet_alu _ _ _)
  | addHl p => exact .quiet e rfl
  | incPair p => exact .quiet e (quiet_setPair _ _ _)
  | decPair p => exact .quiet e (quiet_setPair _ _ _)
  | incReg r => exact .quiet e ((quiet_setReg _ _ _).trans rfl)
  | decReg r => exact .quiet e ((quiet_setReg _ _ _).trans rfl)
  | incMem => exact .store e (quiet_touch _ _) rfl
  | decMem => exact .store e (quiet_touch _ _) rfl
  | rotA k => exact .quiet e rfl
  | cbRot k z =>
    cases z with
    | reg r => exact .quiet e ((quiet_setReg _ _ _).trans rfl)
    | indHl =>
      simp only [runForm, cbRotate, State.getOperand, State.putOperand, State.get8,
        State.touch_hl] at e
      exact .store e (quiet_touch _ _) rfl
  | cbBit b z => exact .quiet e ((quiet_getOperand _ _).trans rfl)
  | cbRes b z =>
    cases z with
    | reg r => exact .quiet e (quiet_setReg _ _ _)
    | indHl =>
      simp only [runForm, cbReset, State.getOperand, State.putOperand, State.get8,
        State.touch_hl] at e
      exact .store e (quiet_touch _ _) (.refl _)
  | cbSet b z =>
    cases z with
    | reg r => exact .quiet e (quiet_setReg _ _ _)
    | indHl =>
      simp only [runForm, Machine.cbSet, State.getOperand, State.putOperand, State.get8,
        State.touch_hl] at e
      exact .store e (quiet_touch _ _) (.refl _)
  | jp nn => exact .quiet e rfl
  | jpIf cc nn =>
    simp only [runForm, jumpIf] at e
    split at e <;> exact .quiet e rfl
  | jr d => exact .quiet e rfl
  | jrIf cc d =>
    simp only [runForm, jumpRelIf] at e
    split at e <;> exact .quiet e rfl
  | call nn => exact .word (u := s.setSp (s.cpu.sp - 2)) e rfl rfl
  | callIf cc nn =>
    simp only [runForm, callIf] at e
    simp only [Form.storedTo]
    split at e
    · rename_i hc
      rw [if_pos hc]
      exact .word (u := s.setSp (s.cpu.sp - 2)) e rfl rfl
    · rename_i hc
      rw [if_neg hc]
      exact .quiet e rfl
  | ret => exact .quiet e ((quiet_pop s).trans rfl)
  | retIf cc =>
    simp only [runForm, retIf] at e
    split at e
    · exact .quiet e ((quiet_pop s).trans rfl)
    · exact .quiet e rfl
  | reti => exact .quiet e ((quiet_pop s).trans rfl)
  | rst y => exact .word (u := s.setSp (s.cpu.sp - 2)) e rfl rfl
  | push p => exact .word (u := s.setSp (s.cpu.sp - 2)) e rfl rfl
  | pop p => exact .quiet e ((quiet_pop s).trans (quiet_setStackPair _ _ _))
  | prefixed op2 => exact absurd rfl (np op2)

/-- What any instruction can do. -/
theorem exec_effect {i : Instr} {s t : State} (h : exec i s = .next t) :
    Effect (storedTo i s) s t := by
  rw [exec_eq_unprefixed] at h
  exact runForm_effect _ s t (unprefixed_ne_prefixed _) h

end Sys2Proof.Machine
end

