-- ==== Sys2Proof/Laws/Flags.lean ====
section
/-! SUPPORT. The flag computations: what F reads back as, and each result as a sum or a difference of
bytes. -/

namespace Sys2Proof.Machine

@[simp] theorem flagZ_flagByte (z n h c : Bool) : flagZ (flagByte z n h c) = z := by
  cases z <;> cases n <;> cases h <;> cases c <;> decide
@[simp] theorem flagN_flagByte (z n h c : Bool) : flagN (flagByte z n h c) = n := by
  cases z <;> cases n <;> cases h <;> cases c <;> decide
@[simp] theorem flagH_flagByte (z n h c : Bool) : flagH (flagByte z n h c) = h := by
  cases z <;> cases n <;> cases h <;> cases c <;> decide
@[simp] theorem flagC_flagByte (z n h c : Bool) : flagC (flagByte z n h c) = c := by
  cases z <;> cases n <;> cases h <;> cases c <;> decide

/-- The low nibble of F is zero after any flag write (R33). -/
@[simp] theorem flagByte_low (z n h c : Bool) : flagByte z n h c &&& 15#8 = 0#8 := by
  cases z <;> cases n <;> cases h <;> cases c <;> decide

theorem and_F0_low (v : Byte) : v &&& 0xF0 &&& 0x0F = 0 := by
  rw [BitVec.and_assoc, show (0xF0 : Byte) &&& 0x0F = 0 from by decide]
  simp

/-- The low nibble of a byte, as a number. -/
theorem low_nibble_eq (v k : Byte) : (v &&& 0x0F == k) = decide (v.toNat % 16 = k.toNat) := by
  have h : (v &&& 0x0F).toNat = v.toNat % 16 := by
    rw [BitVec.toNat_and]
    exact Nat.and_two_pow_sub_one_eq_mod v.toNat 4
  rw [Bool.eq_iff_iff]
  simp only [beq_iff_eq, decide_eq_true_eq, ← BitVec.toNat_inj, h]

/-- An addition is the sum of the bytes and the carry (R241). -/
theorem add8_eq (a b : Byte) (c : Bool) :
    let cin := if c then 1 else 0
    let res := a + b + BitVec.ofNat 8 cin
    add8 a b c =
      { res, z := res == 0, n := false,
        h := decide (a.toNat % 16 + b.toNat % 16 + cin > 0xF),
        c := decide (a.toNat + b.toNat + cin > 0xFF) } := by
  have h : BitVec.ofNat 8 (a.toNat + b.toNat + carryNat c) =
      a + b + BitVec.ofNat 8 (if c then 1 else 0) := by
    apply BitVec.eq_of_toNat_eq
    simp [carryNat]
  simp only [add8, h]
  rfl

/-- A subtraction is the difference of the bytes and the borrow (R242). -/
theorem sub8_eq (a b : Byte) (c : Bool) :
    let cin := if c then 1 else 0
    let res := a - b - BitVec.ofNat 8 cin
    sub8 a b c =
      { res, z := res == 0, n := true,
        h := decide (a.toNat % 16 < b.toNat % 16 + cin), c := decide (a.toNat < b.toNat + cin) } := by
  have h : BitVec.ofInt 8 ((a.toNat : Int) - b.toNat - carryNat c) =
      a - b - BitVec.ofNat 8 (if c then 1 else 0) := by
    have := a.isLt
    have := b.isLt
    apply BitVec.eq_of_toNat_eq
    cases c <;> simp [carryNat, BitVec.toNat_ofInt, BitVec.toNat_sub] <;> omega
  simp only [sub8, h]
  rfl

/-- DAA is one adjustment, added after an addition and subtracted after a subtraction (R291). -/
theorem daa8_eq (a f : Byte) :
    let high := flagC f || (!flagN f && decide (a.toNat > 0x99))
    let low := flagH f || (!flagN f && decide (a.toNat % 16 > 9))
    let adjust : Byte := (if high then 0x60 else 0) + (if low then 0x06 else 0)
    let res := if flagN f then a - adjust else a + adjust
    daa8 a f = { res, z := res == 0, n := flagN f, h := false, c := high } := by
  have hlow : (a.toNat + 96) % 16 = a.toNat % 16 := by omega
  simp only [daa8]
  cases flagN f <;> cases flagH f <;> cases flagC f <;> by_cases h1 : a.toNat > 0x99 <;>
    by_cases h2 : a.toNat % 16 > 9 <;> simp [h1, h2, hlow, BitVec.add_assoc, BitVec.sub_sub]

end Sys2Proof.Machine
end

