-- ==== Sys2Proof/Laws/Good.lean ====
section
/-! SUPPORT. The operations keep the invariants of Safety.lean: each region's store, OAM DMA, the HDMA
engine, a bus store, and the flag writes. -/

namespace Sys2Proof.Machine

/-- The invariants that do not speak of the CPU. -/
structure State.BusGood (s : State) : Prop where
  ppu    : s.ppuOk
  memory : s.memOk
  screen : s.screenOk
  hdma   : s.hdmaOk

theorem Quiet.busGood {s t : State} (h : Quiet s t) (g : s.BusGood) : t.BusGood := by
  rw [h]
  exact ⟨g.ppu, g.memory, g.screen, g.hdma⟩

theorem Quiet.params {s t : State} (h : Quiet s t) : t.params = s.params := by rw [h]

/-- The index of a region is inside its memory. -/
def Region.inside : Region → Prop
  | .cart n => n < 0xC000
  | .vram i => i < 0x2000
  | .wram i => i < 0x2000
  | .oam i => i < 160
  | .hram i => i < 127
  | _ => True

theorem route_inside (a : Word) : (route a).inside := by
  have := a.isLt
  unfold route routeNat
  repeat' split
  all_goals simp only [Region.inside] <;> omega

/-- A store to a region keeps every memory canonical and in its size. -/
theorem writeMem_memOk (s : State) (v : Byte) (a : Word) (g : s.memOk) :
    (s.writeMem v (route a)).memOk := by
  have b := route_inside a
  simp only [State.memOk, Mems.ok, Bool.and_eq_true] at g ⊢
  cases h : route a with
  | cart n =>
    rw [h] at b
    simp only [Region.inside] at b
    simp only [State.writeMem, State.writeCart]
    split
    · split
      · exact g
      · exact ⟨by simp [g.1, Memory.wf_write], by simp [g.2, Memory.within_write _ _ _ _ _ b]⟩
    · exact g
    · exact g
  | vram i =>
    rw [h] at b
    simp only [Region.inside] at b
    simp only [State.writeMem, State.writeVram]
    split <;> exact ⟨by simp [g.1, Memory.wf_write], by simp [g.2, Memory.within_write _ _ _ _ _ b]⟩
  | wram i =>
    rw [h] at b
    simp only [Region.inside] at b
    exact ⟨by simp [State.writeMem, g.1, Memory.wf_write],
      by simp [State.writeMem, g.2, Memory.within_write _ _ _ _ _ b]⟩
  | oam i =>
    rw [h] at b
    simp only [Region.inside] at b
    exact ⟨by simp [State.writeMem, g.1, Memory.wf_write],
      by simp [State.writeMem, g.2, Memory.within_write _ _ _ _ _ b]⟩
  | hram i =>
    rw [h] at b
    simp only [Region.inside] at b
    exact ⟨by simp [State.writeMem, g.1, Memory.wf_write],
      by simp [State.writeMem, g.2, Memory.within_write _ _ _ _ _ b]⟩
  | unmapped => exact g
  | io r => exact g
  | irqEnable => exact g

theorem oamDmaFrom_memOk (p : Byte) (n i : Nat) (s : State) (h : i + n ≤ 160) (g : s.memOk) :
    (State.oamDmaFrom p n i s).memOk := by
  induction n generalizing i s with
  | zero => exact g
  | succ n ih =>
    refine ih (i + 1) _ (by omega) ?_
    simp only [State.memOk, Mems.ok, Bool.and_eq_true] at g ⊢
    simp only [State.oamDmaByte, State.get8, State.touch_mem]
    exact ⟨by simp [g.1, Memory.wf_write], by simp [g.2, Memory.within_write _ _ _ _ _ (show i < 160 by omega)]⟩

theorem hdmaBytes_memOk (n i : Nat) (s : State) (g : s.memOk) : (State.hdmaBytes n i s).memOk := by
  induction n generalizing i s with
  | zero => exact g
  | succ n ih =>
    refine ih (i + 1) _ ?_
    simp only [State.hdmaByte, State.get8]
    exact writeMem_memOk _ _ _ (by simpa [State.memOk] using g)

theorem hdmaBlock_memOk (s : State) (g : s.memOk) : s.hdmaBlock.memOk := by
  have h := hdmaBytes_memOk 16 0 s g
  unfold State.hdmaBlock
  generalize State.hdmaBytes 16 0 s = t at h
  cases s.params.hdmaEngine
  · exact h
  · exact g

theorem hdmaBlocks_memOk (n : Nat) (s : State) (g : s.memOk) : (State.hdmaBlocks n s).memOk := by
  induction n generalizing s with
  | zero => exact g
  | succ n ih => exact ih _ (hdmaBlock_memOk s g)

/-- The descriptor stays well-formed through a block (R448): the addresses aligned, the destination in
VRAM, the count within its bound. -/
theorem advance_ok (d : Hdma) (h : d.ok) (hr : d.remaining ≠ 0) : d.advance.ok := by
  obtain ⟨h1, h2, -, h4, -⟩ := h
  have e (x : Word) : (x &&& 0x000F = 0) = (x.toNat % 16 = 0) := by
    have : (x &&& 0x000F).toNat = x.toNat % 16 := by
      rw [BitVec.toNat_and]
      exact Nat.and_two_pow_sub_one_eq_mod x.toNat 4
    rw [← BitVec.toNat_inj, this]
    rfl
  have hd : ∀ x : Word, x.toNat % 16 = 0 →
      (0x8000 ||| (x &&& 0x1FF0) : Word).toNat % 16 = 0 ∧
        0x8000 ≤ (0x8000 ||| (x &&& 0x1FF0) : Word).toNat ∧
        (0x8000 ||| (x &&& 0x1FF0) : Word).toNat < 0xA000 := by
    intro x _
    have hand : (x &&& 0x1FF0).toNat ≤ 0x1FF0 := by
      rw [BitVec.toNat_and]
      exact Nat.and_le_right
    have hlow : (x &&& 0x1FF0) &&& 0x000F = 0 := by
      rw [BitVec.and_assoc, show (0x1FF0 : Word) &&& 0x000F = 0 from by decide]
      simp
    rw [e] at hlow
    have hor : (0x8000 ||| (x &&& 0x1FF0) : Word).toNat = 0x8000 + (x &&& 0x1FF0).toNat := by
      rw [BitVec.toNat_or]
      exact (Nat.two_pow_add_eq_or_of_lt (i := 15) (b := (x &&& 0x1FF0).toNat) (by omega) 1).symm
    omega
  have hrem : d.remaining.toNat ≠ 0 := fun h => hr (BitVec.eq_of_toNat_eq (by simpa using h))
  have hsub : (d.remaining - 1).toNat = d.remaining.toNat - 1 := by
    rw [BitVec.toNat_sub]
    have := d.remaining.isLt
    simp
    omega
  rw [e] at h1 h2
  have h16 : (d.dst + 16).toNat % 16 = 0 := by
    rw [BitVec.toNat_add]
    simp
    omega
  obtain ⟨k1, k2, k3⟩ := hd (d.dst + 16) h16
  refine ⟨?_, ?_, .inr ⟨k2, k3⟩, ?_, ?_⟩
  · rw [e]
    show (d.src + 16).toNat % 16 = 0
    rw [BitVec.toNat_add]
    simp
    omega
  · rw [e]
    exact k1
  · show (d.remaining - 1).toNat ≤ 128
    omega
  · intro ha
    simp only [Hdma.advance, Bool.and_eq_true, bne_iff_ne] at ha
    exact ha.2

theorem hdmaBlock_hdmaOk (s : State) (g : s.hdmaOk) (hr : s.hdma.remaining ≠ 0) :
    s.hdmaBlock.hdmaOk := by
  show s.hdmaBlock.hdma.ok
  rw [State.hdmaBlock_hdma]
  exact advance_ok _ g hr

theorem hdmaBlocks_hdmaOk (n : Nat) (s : State) (g : s.hdmaOk) (hr : n ≤ s.hdma.remaining.toNat) :
    (State.hdmaBlocks n s).hdmaOk := by
  induction n generalizing s with
  | zero => exact g
  | succ n ih =>
    have hne : s.hdma.remaining ≠ 0 := by
      intro h
      rw [h] at hr
      simp at hr
    refine ih _ (hdmaBlock_hdmaOk s g hne) ?_
    rw [State.hdmaBlock_hdma]
    show n ≤ (s.hdma.remaining - 1).toNat
    rw [BitVec.toNat_sub]
    have := s.hdma.remaining.isLt
    simp
    omega

/-- Blocks keep the invariants. -/
theorem hdmaBlock_busGood (s : State) (g : s.BusGood) (hr : s.hdma.remaining ≠ 0) :
    s.hdmaBlock.BusGood :=
  ⟨by simpa [State.ppuOk] using g.ppu, hdmaBlock_memOk s g.memory,
    by simpa [State.screenOk] using g.screen, hdmaBlock_hdmaOk s g.hdma hr⟩

theorem hdmaAtHblank_busGood (s : State) (g : s.BusGood) : s.hdmaAtHblank.BusGood := by
  unfold State.hdmaAtHblank
  split
  · rename_i h _
    exact hdmaBlock_busGood s g (g.hdma.2.2.2.2 h)
  · exact g

/-- A blank screen has its size (R61). -/
theorem blankScreen_ok (v : Byte) :
    (Lcd.blankScreen v).length = 144 ∧ ∀ line ∈ Lcd.blankScreen v, line.length = 160 := by
  refine ⟨by simp [Lcd.blankScreen], ?_⟩
  intro line h
  rw [Lcd.blankScreen, List.mem_replicate] at h
  rw [h.2, List.length_replicate]

/-- A bus read keeps the invariants. -/
theorem touch_busGood (s : State) (a : Word) (g : s.BusGood) : (s.touch a).BusGood :=
  (quiet_touch s a).busGood g

theorem hdmaBlocks_busGood (n : Nat) (s : State) (g : s.BusGood) (hr : n ≤ s.hdma.remaining.toNat) :
    (State.hdmaBlocks n s).BusGood :=
  ⟨by simpa [State.ppuOk] using g.ppu, hdmaBlocks_memOk n s g.memory,
    by simpa [State.screenOk] using g.screen, hdmaBlocks_hdmaOk n s g.hdma hr⟩

/-- The block count an HDMA5 write starts (R446) is from 1 to 128. -/
theorem blockCount (v : Byte) : ((v &&& 0x7F) + 1).toNat = v.toNat % 128 + 1 := by
  have : (v &&& 0x7F).toNat = v.toNat % 128 := by
    rw [BitVec.toNat_and]
    exact Nat.and_two_pow_sub_one_eq_mod v.toNat 7
  rw [BitVec.toNat_add, this]
  simp
  omega

theorem writeHdma5_busGood (s : State) (v : Byte) (g : s.BusGood) : (s.writeHdma5 v).BusGood := by
  have c := blockCount v
  have ne : (v &&& 0x7F) + 1 ≠ 0 := by
    intro h
    rw [h] at c
    simp at c
  obtain ⟨h1, h2, h3, h4, h5⟩ := g.hdma
  unfold State.writeHdma5
  split
  · exact ⟨g.ppu, g.memory, g.screen, h1, h2, h3, by show ((v &&& 0x7F) + 1).toNat ≤ 128; omega, fun _ => ne⟩
  · split
    · exact ⟨g.ppu, g.memory, g.screen, h1, h2, h3, h4, fun h => nomatch h⟩
    · rename_i h
      refine hdmaBlocks_busGood _ _ ?_ (Nat.le_refl _)
      exact ⟨g.ppu, g.memory, g.screen, h1, h2, h3, by show ((v &&& 0x7F) + 1).toNat ≤ 128; omega,
        fun h' => absurd h' h⟩

theorem ifCgb_busGood (s t : State) (g : s.BusGood) (h : t.BusGood) : (s.ifCgb t).BusGood := by
  unfold State.ifCgb
  split
  · exact h
  · exact g

/-- The fields the HDMA address registers make (R57). -/
theorem hdmaFields (w : Word) (v : Byte) (h : w &&& 0x000F = 0) :
    word v (lo w) &&& 0x000F = 0 ∧ word (hi w) (v &&& 0xF0) &&& 0x000F = 0 := by
  have e (x : Word) : (x &&& 0x000F = 0) = (x.toNat % 16 = 0) := by
    have : (x &&& 0x000F).toNat = x.toNat % 16 := by
      rw [BitVec.toNat_and]
      exact Nat.and_two_pow_sub_one_eq_mod x.toNat 4
    rw [← BitVec.toNat_inj, this]
    rfl
  have k : (v &&& 0xF0).toNat % 16 = 0 := by
    clear * -
    revert v
    decide
  rw [e, e, toNat_word, toNat_word, toNat_lo]
  rw [e] at h
  omega

theorem hdma3Field (w : Word) (v : Byte) :
    0x8000 ≤ (word (0x80 ||| (v &&& 0x1F)) (lo w)).toNat ∧
      (word (0x80 ||| (v &&& 0x1F)) (lo w)).toNat < 0xA000 := by
  have k : 0x80 ≤ (0x80 ||| (v &&& 0x1F) : Byte).toNat ∧ (0x80 ||| (v &&& 0x1F) : Byte).toNat < 0xA0 := by
    clear * -
    revert v
    decide
  rw [toNat_word]
  have := (lo w).isLt
  omega

theorem hdma4Field (w : Word) (v : Byte) (h : w.toNat < 0x0100 ∨ 0x8000 ≤ w.toNat ∧ w.toNat < 0xA000) :
    (word (hi w) (v &&& 0xF0)).toNat < 0x0100 ∨
      0x8000 ≤ (word (hi w) (v &&& 0xF0)).toNat ∧ (word (hi w) (v &&& 0xF0)).toNat < 0xA000 := by
  rw [toNat_word, toNat_hi]
  have := (v &&& 0xF0).isLt
  omega

/-- A palette write keeps every memory (R476). -/
theorem writeBcpd_memOk (s : State) (v : Byte) (g : s.memOk) : (s.writeBcpd v).memOk := by
  simp only [State.memOk, Mems.ok, Bool.and_eq_true] at g ⊢
  exact ⟨by simp [State.writeBcpd, g.1, Memory.wf_write],
    by simp [State.writeBcpd, g.2, Memory.within_write _ _ _ _ _ s.ppu.bcpsIdx.isLt]⟩

theorem writeOcpd_memOk (s : State) (v : Byte) (g : s.memOk) : (s.writeOcpd v).memOk := by
  simp only [State.memOk, Mems.ok, Bool.and_eq_true] at g ⊢
  exact ⟨by simp [State.writeOcpd, g.1, Memory.wf_write],
    by simp [State.writeOcpd, g.2, Memory.within_write _ _ _ _ _ s.ppu.ocpsIdx.isLt]⟩

theorem writeDma_busGood (s : State) (v : Byte) (g : s.BusGood) : (s.writeDma v).BusGood := by
  unfold State.writeDma
  split
  · have h := oamDmaFrom_memOk v 160 0 { s with ppu.dma := v } (by omega) g.memory
    rw [State.oamDmaFrom_eq] at h ⊢
    exact ⟨g.ppu, h, g.screen, g.hdma⟩
  · exact ⟨g.ppu, g.memory, g.screen, g.hdma⟩

theorem writeLcdc_busGood (s : State) (v : Byte) (g : s.BusGood) : (s.writeLcdc v).BusGood := by
  unfold State.writeLcdc
  split
  · rename_i h
    refine ⟨⟨g.ppu.1, g.ppu.2.1, ?_⟩, g.memory, g.screen, g.hdma⟩
    rcases g.ppu.2.2 with k | k
    · exact .inl ⟨k.1, h⟩
    · exact .inr k
  · obtain ⟨h1, h2⟩ := blankScreen_ok s.params.gray.g0
    exact ⟨⟨Nat.zero_lt_succ 455, Nat.zero_lt_succ 153, .inr ⟨rfl, rfl, rfl⟩⟩, g.memory, ⟨h1, h2, g.screen.2.2⟩, g.hdma⟩

/-- A write to the I/O window keeps the invariants. -/
theorem writeIo_busGood (s : State) (v : Byte) (r : IoReg) (g : s.BusGood) :
    (s.writeIo v r).BusGood := by
  obtain ⟨h1, h2, h3, h4, h5⟩ := g.hdma
  cases r with
  | lcdc => exact writeLcdc_busGood s v g
  | dma => exact writeDma_busGood s v g
  | hdma1 => exact ifCgb_busGood _ _ g ⟨g.ppu, g.memory, g.screen, (hdmaFields _ v h1).1, h2, h3, h4, h5⟩
  | hdma2 => exact ifCgb_busGood _ _ g ⟨g.ppu, g.memory, g.screen, (hdmaFields _ v h1).2, h2, h3, h4, h5⟩
  | hdma3 =>
    exact ifCgb_busGood _ _ g ⟨g.ppu, g.memory, g.screen, h1, (hdmaFields _ _ h2).1,
      .inr (hdma3Field _ v), h4, h5⟩
  | hdma4 =>
    exact ifCgb_busGood _ _ g ⟨g.ppu, g.memory, g.screen, h1, (hdmaFields _ v h2).2,
      hdma4Field _ v h3, h4, h5⟩
  | hdma5 => exact ifCgb_busGood _ _ g (writeHdma5_busGood s v g)
  | bcpd => exact ifCgb_busGood _ _ g ⟨g.ppu, writeBcpd_memOk s v g.memory, g.screen, g.hdma⟩
  | ocpd => exact ifCgb_busGood _ _ g ⟨g.ppu, writeOcpd_memOk s v g.memory, g.screen, g.hdma⟩
  | vbk | bcps | ocps =>
    exact ifCgb_busGood _ _ g ⟨g.ppu, g.memory, g.screen, g.hdma⟩
  | _ => exact ⟨g.ppu, g.memory, g.screen, g.hdma⟩

/-- A bus store keeps the invariants. -/
theorem set8_busGood (s : State) (a : Word) (v : Byte) (g : s.BusGood) : (s.set8 a v).BusGood := by
  by_cases h : ∃ r, route a = .io r
  · obtain ⟨r, h⟩ := h
    rw [State.set8, h]
    exact writeIo_busGood s v r g
  · rw [State.set8_of_not_io s a v fun r e => h ⟨r, e⟩]
    exact ⟨by simpa [State.ppuOk] using g.ppu, writeMem_memOk s v a g.memory,
      by simpa [State.screenOk] using g.screen, by simpa [State.hdmaOk] using g.hdma⟩

theorem storeAll_busGood (s : State) (ws : List (Word × Byte)) (g : s.BusGood) :
    (s.storeAll ws).BusGood := by
  induction ws generalizing s with
  | nil => exact g
  | cons w ws ih => exact ih _ (set8_busGood s w.1 w.2 g)

theorem Effect.busGood {at_ : List Word} {s t : State} (h : Effect at_ s t) (g : s.BusGood) :
    t.BusGood := by
  obtain ⟨u, ws, h1, -, h2⟩ := h
  exact h2.busGood (storeAll_busGood u ws (h1.busGood g))

theorem storeAll_params (s : State) (ws : List (Word × Byte)) : (s.storeAll ws).params = s.params := by
  induction ws generalizing s with
  | nil => rfl
  | cons w ws ih => exact (ih _).trans (State.set8_params s w.1 w.2)

theorem storeAll_cpu (s : State) (ws : List (Word × Byte)) : (s.storeAll ws).cpu = s.cpu := by
  induction ws generalizing s with
  | nil => rfl
  | cons w ws ih => exact (ih _).trans (State.set8_cpu s w.1 w.2)

theorem Effect.params {at_ : List Word} {s t : State} (h : Effect at_ s t) : t.params = s.params := by
  obtain ⟨u, ws, h1, -, h2⟩ := h
  rw [h2.params, storeAll_params, h1.params]

/-- A byte of plain storage reads back what was stored there. -/
theorem peek_set8_same (s : State) (a : Word) (v : Byte) (g : s.memOk) (st : (route a).storage = true)
   (c : ∀ n, route a = .cart n → s.params.cart = .flat ∧ 0x8000 ≤ a.toNat) : (s.set8 a v).peek a = v := by
  simp only [State.memOk, Mems.ok, Bool.and_eq_true] at g
  obtain ⟨⟨⟨⟨⟨⟨⟨⟨g1, g2⟩, g3⟩, g4⟩, g5⟩, g6⟩, g7⟩, g8⟩, -⟩ := g
  rw [State.set8_of_not_io s a v (by intro r e; rw [e] at st; cases st)]
  unfold State.peek
  cases h : route a with
  | cart n =>
    obtain ⟨c1, c2⟩ := c n h
    have : n = a.toNat := by
      unfold route routeNat at h; repeat' split at h
      all_goals first | (cases h; rfl) | cases h
    have c3 : ¬ n < 0x8000 := by omega
    simp only [State.writeMem, State.writeCart, c1, if_neg c3, State.readRegion, State.readCart, State.cartKnown, if_true, Memory.read_write_same _ _ _ g1]
  | vram i =>
    simp only [State.writeMem, State.writeVram, State.readRegion]
    split
    · rename_i k
      have : State.bank1 { s with mem.vram1 := Memory.write s.mem.vram1 i v } = true := k
      simp only [State.readVram, this, if_true, Memory.read_write_same _ _ _ g3]
    · rename_i k
      have : State.bank1 { s with mem.vram0 := Memory.write s.mem.vram0 i v } = s.bank1 := rfl
      simp only [State.readVram, this, if_neg k, Memory.read_write_same _ _ _ g2]
  | wram i => exact Memory.read_write_same _ _ _ g4
  | oam i => exact Memory.read_write_same _ _ _ g6
  | hram i => exact Memory.read_write_same _ _ _ g5
  | unmapped | io r | irqEnable => rw [h] at st; cases st

/-- A store to a region leaves every byte in another place, but for the bytes of an unknown cartridge
after a store to it. -/
theorem readRegion_writeMem (s : State) (v : Byte) (r q : Region) (h : q ≠ r) 
   (c : s.params.cart = .flat ∨ (∀ n, q ≠ .cart n) ∨ ∀ n, r ≠ .cart n) :
   (s.writeMem v r).readRegion q = s.readRegion q := by
  cases r with
  | cart n =>
    simp only [State.writeMem, State.writeCart]
    split
    · split
      · rfl
      · rename_i hc _
        cases q with
        | cart k =>
          have : k ≠ n := by intro e; exact h (by rw [e])
          simp only [State.readRegion, State.readCart, State.cartKnown, hc, if_true]
          exact Memory.read_write_other _ _ _ _ this
        | io r => cases r <;> rfl
        | _ => rfl
    all_goals
      rename_i hc
      rcases c with c | c | c
      · rw [c] at hc
        cases hc
      · cases q with
        | cart k => exact absurd rfl (c k)
        | io r => cases r <;> rfl
        | _ => rfl
      · exact absurd rfl (c n)
  | vram i =>
    simp only [State.writeMem, State.writeVram]
    split
    · rename_i hb
      cases q with
      | vram k =>
        have : k ≠ i := by intro e; exact h (by rw [e])
        have e : State.bank1 { s with mem.vram1 := Memory.write s.mem.vram1 i v } = true := hb
        simp only [State.readRegion, State.readVram, hb, e, if_true]
        exact Memory.read_write_other _ _ _ _ this
      | io r => cases r <;> rfl
      | _ => rfl
    · rename_i hb
      cases q with
      | vram k =>
        have : k ≠ i := by intro e; exact h (by rw [e])
        have e : State.bank1 { s with mem.vram0 := Memory.write s.mem.vram0 i v } = s.bank1 := rfl
        simp only [State.readRegion, State.readVram, e, if_neg hb]
        exact Memory.read_write_other _ _ _ _ this
      | io r => cases r <;> rfl
      | _ => rfl
  | wram i =>
    cases q with
    | wram k => exact Memory.read_write_other _ _ _ _ (by intro e; exact h (by rw [e]))
    | io r => cases r <;> rfl
    | _ => rfl
  | oam i =>
    cases q with
    | oam k => exact Memory.read_write_other _ _ _ _ (by intro e; exact h (by rw [e]))
    | io r => cases r <;> rfl
    | _ => rfl
  | hram i =>
    cases q with
    | hram k => exact Memory.read_write_other _ _ _ _ (by intro e; exact h (by rw [e]))
    | io r => cases r <;> rfl
    | _ => rfl
  | unmapped => rfl
  | io r => rfl
  | irqEnable =>
    cases q with
    | irqEnable => exact absurd rfl h
    | io r => cases r <;> rfl
    | _ => rfl

/-- A word with the low nibble clear is a multiple of 16 (R57). -/
theorem mod16_of_low (w : Word) (h : w &&& 0x000F = 0) : w.toNat % 16 = 0 := by
  have : (w &&& 0x000F).toNat = w.toNat % 16 := by
    rw [BitVec.toNat_and]
    exact Nat.and_two_pow_sub_one_eq_mod w.toNat 4
  rw [← this, h]
  rfl

/-- The destination of a block lies in VRAM (R59). -/
theorem route_dst (d : Hdma) (i : Nat) (h : d.ok) (hd : 0x8000 ≤ d.dst.toNat) (hi : i < 16) :
    route (d.dst + BitVec.ofNat 16 i) = .vram (d.dst.toNat - 0x8000 + i) := by
  have e := mod16_of_low d.dst h.2.1
  have h3 := h.2.2.1
  have : (d.dst + BitVec.ofNat 16 i).toNat = d.dst.toNat + i := by
    rw [BitVec.toNat_add]
    simp
    omega
  unfold route routeNat
  rw [this, if_neg (by omega), if_pos (by omega)]
  refine congrArg Region.vram ?_
  omega

theorem writeVram_eq (s : State) (i : Nat) (v : Byte) :
    s.writeVram i v = { s with
      mem.vram0 := (s.writeVram i v).mem.vram0
      mem.vram1 := (s.writeVram i v).mem.vram1 } := by
  unfold State.writeVram
  split <;> rfl

theorem hdmaByte_eq (s : State) (i : Nat) (h : s.hdmaOk) (hd : 0x8000 ≤ s.hdma.dst.toNat)
    (hi : i < 16) :
    s.hdmaByte i = { s with
      mem.vram0 := (s.hdmaByte i).mem.vram0
      mem.vram1 := (s.hdmaByte i).mem.vram1
      env.draws := (s.hdmaByte i).env.draws } := by
  simp only [State.hdmaByte, State.get8, State.touch_hdma, route_dst s.hdma i h hd hi, State.writeMem]
  rw [writeVram_eq, State.touch_eq]

theorem hdmaBytes_eq (n i : Nat) (s : State) (h : s.hdmaOk) (hd : 0x8000 ≤ s.hdma.dst.toNat)
    (hi : i + n ≤ 16) :
    State.hdmaBytes n i s = { s with
      mem.vram0 := (State.hdmaBytes n i s).mem.vram0
      mem.vram1 := (State.hdmaBytes n i s).mem.vram1
      env.draws := (State.hdmaBytes n i s).env.draws } := by
  induction n generalizing i s with
  | zero => rfl
  | succ n ih =>
    rw [State.hdmaBytes]
    have q := State.hdmaByte_hdma s i
    rw [ih _ _ (by rw [State.hdmaOk, q]; exact h) (by rw [q]; exact hd) (by omega)]
    rw [hdmaByte_eq s i h hd (by omega)]

/-- With the destination in VRAM, a block changes VRAM, the descriptor and the record of draws only. -/
theorem hdmaBlock_eq (s : State) (h : s.hdmaOk) (hd : 0x8000 ≤ s.hdma.dst.toNat) :
    s.hdmaBlock = { s with
      hdma := s.hdma.advance
      mem.vram0 := s.hdmaBlock.mem.vram0
      mem.vram1 := s.hdmaBlock.mem.vram1
      env.draws := s.hdmaBlock.env.draws } := by
  have := hdmaBytes_eq 16 0 s h hd (by omega)
  unfold State.hdmaBlock
  generalize State.hdmaBytes 16 0 s = t at this
  cases s.params.hdmaEngine
  · simp only
    rw [this]
  · rfl

/-- The destination moves on by 16, inside VRAM (R448). -/
theorem advance_dst (d : Hdma) (h : d.ok) (hd : 0x8000 ≤ d.dst.toNat) :
    d.advance.dst.toNat = 0x8000 + (d.dst.toNat - 0x8000 + 16) % 0x2000 := by
  have e := mod16_of_low d.dst h.2.1
  have h3 := h.2.2.1
  show (0x8000 ||| ((d.dst + 16) &&& 0x1FF0) : Word).toNat = _
  have a : (d.dst + 16).toNat = d.dst.toNat + 16 := by
    rw [BitVec.toNat_add]
    simp
    omega
  have b : ((d.dst + 16) &&& 0x1FF0) = ((d.dst + 16) &&& 0x1FFF) := by
    apply BitVec.eq_of_getLsbD_eq
    intro i hi
    have low : ∀ j < 4, (d.dst + 16).getLsbD j = false := by
      intro j hj
      rw [← BitVec.testBit_toNat, a]
      have : d.dst.toNat + 16 = 2 ^ 4 * ((d.dst.toNat + 16) / 16) := by omega
      rw [this, Nat.testBit_two_pow_mul]
      simp
      omega
    simp only [BitVec.getLsbD_and]
    by_cases k : i < 4
    · rw [low i k]
      simp
    · congr 1
      interval_cases i <;> rfl
  have c : ((d.dst + 16) &&& 0x1FFF).toNat = (d.dst.toNat + 16) % 0x2000 := by
    rw [BitVec.toNat_and, a]
    exact Nat.and_two_pow_sub_one_eq_mod _ 13
  rw [b, BitVec.toNat_or, c, show (0x8000 : Word).toNat = 2 ^ 15 * 1 from rfl,
    ← Nat.two_pow_add_eq_or_of_lt (by omega)]
  omega

end Sys2Proof.Machine
end

