-- ==== Sys2Proof/Laws/Ppu.lean ====
section
/-! SUPPORT. What a dot of the PPU, and a tick of many, does to each field of the state; the arithmetic
of the dot counter; and that a dot keeps the invariants. -/

namespace Sys2Proof.Machine

@[simp] theorem State.renderLine_params (s : State) (ly : Nat) :
    (s.renderLine ly).params = s.params := rfl
@[simp] theorem State.renderLine_cpu (s : State) (ly : Nat) : (s.renderLine ly).cpu = s.cpu := rfl
@[simp] theorem State.renderLine_irq (s : State) (ly : Nat) : (s.renderLine ly).irq = s.irq := rfl
@[simp] theorem State.renderLine_ppu (s : State) (ly : Nat) : (s.renderLine ly).ppu = s.ppu := rfl
@[simp] theorem State.renderLine_hdma (s : State) (ly : Nat) : (s.renderLine ly).hdma = s.hdma := rfl
@[simp] theorem State.renderLine_mem (s : State) (ly : Nat) : (s.renderLine ly).mem = s.mem := rfl
@[simp] theorem State.renderLine_env (s : State) (ly : Nat) : (s.renderLine ly).env = s.env := rfl
@[simp] theorem State.renderLine_cycles (s : State) (ly : Nat) :
    (s.renderLine ly).cycles = s.cycles := rfl

/-- A conditional request is one OR into IF. -/
theorem State.requestIf_eq (s : State) (p : Bool) (m : BitVec 5) :
    s.requestIf p m = { s with irq.flags := s.irq.flags ||| (if p then m else 0) } := by
  cases p
  · simp [State.requestIf]
  · rfl

@[simp] theorem State.requestIf_ppu (s : State) (p : Bool) (m : BitVec 5) :
    (s.requestIf p m).ppu = s.ppu := by rw [State.requestIf_eq]
@[simp] theorem State.requestIf_hdma (s : State) (p : Bool) (m : BitVec 5) :
    (s.requestIf p m).hdma = s.hdma := by rw [State.requestIf_eq]
@[simp] theorem State.requestIf_params (s : State) (p : Bool) (m : BitVec 5) :
    (s.requestIf p m).params = s.params := by rw [State.requestIf_eq]

/-- The dot counter changes the dot, the line and IF only. -/
theorem State.advanceDot_eq (s : State) :
    s.advanceDot = { s with
      ppu.dots := s.advanceDot.ppu.dots
      ppu.ly := s.advanceDot.ppu.ly
      irq.flags := s.advanceDot.irq.flags } := by
  unfold State.advanceDot
  split
  · rw [State.requestIf_eq]
  · rfl

theorem State.advanceDot_dots (s : State) (h : s.ppu.dots < 456) :
    s.advanceDot.ppu.dots = (s.ppu.dots + 1) % 456 := by
  unfold State.advanceDot
  split
  · rename_i e
    rw [State.requestIf_ppu, e]
  · show s.ppu.dots + 1 = _
    omega

theorem State.advanceDot_ly (s : State) :
    s.advanceDot.ppu.ly.toNat =
      if s.ppu.dots = 455 then (s.ppu.ly.toNat + 1) % 154 else s.ppu.ly.toNat := by
  unfold State.advanceDot
  split
  · rw [State.requestIf_ppu, if_pos (by omega)]
    simp
    omega
  · rw [if_neg (by omega)]

/-- IF after the dot counter: the LY = LYC comparison of the line boundary (R423). -/
theorem State.advanceDot_flags (s : State) :
    s.advanceDot.irq.flags = s.irq.flags |||
      (if (s.ppu.dots == 455 && s.advanceDot.ppu.ly == s.ppu.lyc && s.ppu.statEn.getLsbD 3) = true
        then 0b00010 else 0) := by
  unfold State.advanceDot
  split
  · have : s.ppu.dots = 455 := by omega
    simp only [State.requestIf_eq, this, beq_self_eq_true, Bool.true_and, reqStat, State.statBit]
  · have : (s.ppu.dots == 455) = false := by
      rw [beq_eq_false_iff_ne]
      omega
    simp [this]

/-- The enables of STAT are its bits 6 to 3 (R49). -/
theorem State.readStat_bits (s : State) (i : Nat) (h : 3 ≤ i) (h2 : i < 7) :
    s.readStat.getLsbD i = s.ppu.statEn.getLsbD (i - 3) := by
  unfold State.readStat State.unusedBits mask
  have m : ∀ x : LcdMode, x.bits.getLsbD i = false := by
    intro x
    cases x <;> (interval_cases i <;> decide)
  have u : (if s.params.unusedBit then (0x80 : Byte) else 0).getLsbD i = false := by
    split <;> (interval_cases i <;> decide)
  have l : ∀ b : Bool, (if b then (0x04 : Byte) else 0).getLsbD i = false := by
    intro b
    cases b <;> (interval_cases i <;> decide)
  simp only [BitVec.getLsbD_or, m, u, l, Bool.or_false, Bool.false_or, BitVec.getLsbD_shiftLeft,
    BitVec.getLsbD_setWidth]
  interval_cases i <;> simp

/-- What entering a mode leaves: everything but IF, the screen and, through a block of an H-blank
transfer, video RAM, the descriptor and the record of draws. -/
@[simp] theorem State.enterMode_params (s : State) (m : LcdMode) :
    (s.enterMode m).params = s.params := by
  cases m <;> simp [State.enterMode, State.requestIf_eq, State.request]
@[simp] theorem State.enterMode_cpu (s : State) (m : LcdMode) : (s.enterMode m).cpu = s.cpu := by
  cases m <;> simp [State.enterMode, State.requestIf_eq, State.request]
@[simp] theorem State.enterMode_ppu (s : State) (m : LcdMode) : (s.enterMode m).ppu = s.ppu := by
  cases m <;> simp [State.enterMode, State.requestIf_eq, State.request]
@[simp] theorem State.enterMode_cycles (s : State) (m : LcdMode) :
    (s.enterMode m).cycles = s.cycles := by
  cases m <;> simp [State.enterMode, State.requestIf_eq, State.request]
@[simp] theorem State.enterMode_env_posts (s : State) (m : LcdMode) :
    (s.enterMode m).env.posts = s.env.posts := by
  cases m <;> simp [State.enterMode, State.requestIf_eq, State.request]

/-- VBlank is requested by entering mode 1 and by nothing else (R422, R505). -/
theorem State.enterMode_vblankFlag (s : State) (m : LcdMode) :
    (s.enterMode m).irq.flags.getLsbD 0 = (s.irq.flags.getLsbD 0 || m == .vblank) := by
  cases m <;>
    simp [State.enterMode, State.requestIf_eq, State.request, reqStat, reqVblank] <;>
    split <;> simp

theorem State.advanceDot_vblankFlag (s : State) :
    s.advanceDot.irq.flags.getLsbD 0 = s.irq.flags.getLsbD 0 := by
  unfold State.advanceDot
  split
  · simp only [State.requestIf_eq, reqStat]
    split <;> simp
  · rfl

@[simp] theorem State.updateMode_params (s : State) : s.updateMode.params = s.params := by
  simp only [State.updateMode]
  split <;> simp
@[simp] theorem State.updateMode_cpu (s : State) : s.updateMode.cpu = s.cpu := by
  simp only [State.updateMode]
  split <;> simp
@[simp] theorem State.updateMode_cycles (s : State) : s.updateMode.cycles = s.cycles := by
  simp only [State.updateMode]
  split <;> simp
@[simp] theorem State.updateMode_env_posts (s : State) : s.updateMode.env.posts = s.env.posts := by
  simp only [State.updateMode]
  split <;> simp

/-- After a dot the mode is `ModeOf` of the line and the dot (R421). -/
theorem State.updateMode_ppu (s : State) :
    s.updateMode.ppu = { s.ppu with mode := modeOf s.ppu.ly.toNat s.ppu.dots } := by
  simp only [State.updateMode]
  split
  · rename_i h
    rw [h]
  · simp

theorem State.dotStep_ppu (s : State) :
    s.dotStep.ppu = { s.ppu with
      dots := s.advanceDot.ppu.dots
      ly := s.advanceDot.ppu.ly
      mode := modeOf s.advanceDot.ppu.ly.toNat s.advanceDot.ppu.dots } := by
  rw [State.dotStep, State.updateMode_ppu]
  rw [State.advanceDot_eq]

@[simp] theorem State.dotStep_params (s : State) : s.dotStep.params = s.params := by
  rw [State.dotStep, State.updateMode_params, State.advanceDot_eq]
@[simp] theorem State.dotStep_cpu (s : State) : s.dotStep.cpu = s.cpu := by
  rw [State.dotStep, State.updateMode_cpu, State.advanceDot_eq]
@[simp] theorem State.dotStep_cycles (s : State) : s.dotStep.cycles = s.cycles := by
  rw [State.dotStep, State.updateMode_cycles, State.advanceDot_eq]
@[simp] theorem State.dotStep_env_posts (s : State) : s.dotStep.env.posts = s.env.posts := by
  rw [State.dotStep, State.updateMode_env_posts, State.advanceDot_eq]

@[simp] theorem State.dot_params (s : State) : s.dot.params = s.params := by
  unfold State.dot
  split <;> simp
@[simp] theorem State.dot_cpu (s : State) : s.dot.cpu = s.cpu := by
  unfold State.dot
  split <;> simp
@[simp] theorem State.dot_cycles (s : State) : s.dot.cycles = s.cycles := by
  unfold State.dot
  split <;> simp
@[simp] theorem State.dot_env_posts (s : State) : s.dot.env.posts = s.env.posts := by
  unfold State.dot
  split <;> simp

/-- The PPU's registers but the dot, the line and the mode stay through a dot. -/
theorem State.dot_ppu (s : State) :
    s.dot.ppu = { s.ppu with dots := s.dot.ppu.dots, ly := s.dot.ppu.ly, mode := s.dot.ppu.mode } := by
  unfold State.dot
  split
  · rw [State.dotStep_ppu]
  · rfl

@[simp] theorem State.tick_params (n : Nat) (s : State) : (State.tick n s).params = s.params := by
  induction n generalizing s with
  | zero => rfl
  | succ n ih => rw [State.tick, ih, State.dot_params]
@[simp] theorem State.tick_cpu (n : Nat) (s : State) : (State.tick n s).cpu = s.cpu := by
  induction n generalizing s with
  | zero => rfl
  | succ n ih => rw [State.tick, ih, State.dot_cpu]
@[simp] theorem State.tick_cycles (n : Nat) (s : State) : (State.tick n s).cycles = s.cycles := by
  induction n generalizing s with
  | zero => rfl
  | succ n ih => rw [State.tick, ih, State.dot_cycles]
@[simp] theorem State.tick_env_posts (n : Nat) (s : State) :
    (State.tick n s).env.posts = s.env.posts := by
  induction n generalizing s with
  | zero => rfl
  | succ n ih => rw [State.tick, ih, State.dot_env_posts]

theorem State.tick_ppu (n : Nat) (s : State) :
    (State.tick n s).ppu = { s.ppu with
      dots := (State.tick n s).ppu.dots
      ly := (State.tick n s).ppu.ly
      mode := (State.tick n s).ppu.mode } := by
  induction n generalizing s with
  | zero => rfl
  | succ n ih => rw [State.tick, ih, State.dot_ppu]

/-- The last dot of a tick. -/
theorem State.tick_last (n : Nat) (s : State) : State.tick (n + 1) s = (State.tick n s).dot := by
  induction n generalizing s with
  | zero => rfl
  | succ n ih => exact ih s.dot

/-- With the LCD off a tick does nothing (R413). -/
theorem State.tick_off (n : Nat) (s : State) (h : bit s.ppu.lcdc 7 = false) :
    State.tick n s = s := by
  have e : s.dot = s := by simp [State.dot, h]
  induction n with
  | zero => rfl
  | succ n ih => rw [State.tick, e, ih]

/-! ## The compositor -/

theorem drawSpritePixel_length (s : State) (prio : List Prio) (o : Sprite) (low high : Byte)
    (line : List Rgb) (px : Nat) :
    (s.drawSpritePixel prio o low high line px).length = line.length := by
  simp only [State.drawSpritePixel]
  repeat' split
  all_goals simp

theorem drawSprite_length (s : State) (prio : List Prio) (ly : Nat) (line : List Rgb) (k : Nat) :
    (s.drawSprite prio ly line k).length = line.length := by
  simp only [State.drawSprite]
  split
  · simp only [List.foldl_cons, List.foldl_nil, drawSpritePixel_length]
  · rfl

theorem spritePass_length (s : State) (prio : List Prio) (ly n : Nat) (line : List Rgb) :
    (s.spritePass prio ly n line).length = line.length := by
  induction n generalizing line with
  | zero => rfl
  | succ n ih => rw [State.spritePass, ih, drawSprite_length]

theorem lineOf_length (s : State) (ly : Nat) : (s.lineOf ly).length = 160 := by
  simp only [State.lineOf]
  split <;> simp [spritePass_length, State.bgLine]

/-- A rendered line keeps the shape of the screen and of the priority record (R61, R62). -/
theorem renderLine_screenOk (s : State) (ly : Nat) (g : s.screenOk) : (s.renderLine ly).screenOk := by
  refine ⟨by simpa [State.renderLine] using g.1, ?_, by simp [State.renderLine, State.bgLine]⟩
  intro line h
  rcases List.mem_or_eq_of_mem_set h with h | h
  · exact g.2.1 line h
  · rw [h, lineOf_length]

/-! ## The invariants -/

theorem requestIf_busGood (s : State) (p : Bool) (m : BitVec 5) (g : s.BusGood) :
    (s.requestIf p m).BusGood := by
  rw [State.requestIf_eq]
  exact ⟨g.ppu, g.memory, g.screen, g.hdma⟩

theorem renderLine_busGood (s : State) (ly : Nat) (g : s.BusGood) : (s.renderLine ly).BusGood :=
  ⟨g.ppu, g.memory, renderLine_screenOk s ly g.screen, g.hdma⟩

theorem enterMode_busGood (s : State) (m : LcdMode) (g : s.BusGood) : (s.enterMode m).BusGood := by
  cases m with
  | hblank => exact hdmaAtHblank_busGood _ (renderLine_busGood _ _ (requestIf_busGood _ _ _ g))
  | vblank => exact requestIf_busGood _ _ _ ⟨g.ppu, g.memory, g.screen, g.hdma⟩
  | oamScan => exact requestIf_busGood _ _ _ g
  | transfer => exact g

/-- A dot with the LCD on keeps the invariants (R426). -/
theorem dotStep_busGood (s : State) (g : s.BusGood) (on : bit s.ppu.lcdc 7 = true) :
    s.dotStep.BusGood := by
  have hd := State.advanceDot_dots s g.ppu.1
  have hl := State.advanceDot_ly s
  have g2 := g.ppu.2.1
  have e := State.advanceDot_eq s
  have hp := State.dotStep_ppu s
  have ok : s.dotStep.ppuOk := by
    unfold State.ppuOk
    rw [hp]
    refine ⟨?_, ?_, .inl ⟨rfl, on⟩⟩
    · show s.advanceDot.ppu.dots < 456
      omega
    · show s.advanceDot.ppu.ly.toNat < 154
      split at hl <;> omega
  have keep : ∀ t : State, t.mem = s.mem → t.lcd = s.lcd → t.hdma = s.hdma → t.ppuOk → t.BusGood :=
    fun t h1 h2 h3 h4 => ⟨h4, by simpa [State.memOk, h1] using g.memory,
      by simpa [State.screenOk, h2] using g.screen, by simpa [State.hdmaOk, h3] using g.hdma⟩
  have am : s.advanceDot.mem = s.mem := by rw [e]
  have al : s.advanceDot.lcd = s.lcd := by rw [e]
  have ah : s.advanceDot.hdma = s.hdma := by rw [e]
  have v : s.dotStep = s.advanceDot.updateMode := rfl
  simp only [State.updateMode] at v
  split at v
  · rw [v] at ok ⊢
    exact keep _ am al ah ok
  · rw [v] at ok ⊢
    refine enterMode_busGood _ _ (keep _ am al ah ?_)
    simpa [State.ppuOk] using ok

theorem dot_busGood (s : State) (g : s.BusGood) : s.dot.BusGood := by
  unfold State.dot
  split
  · rename_i h
    exact dotStep_busGood s g h
  · exact g

/-- A tick keeps the invariants (R426). -/
theorem tick_busGood (n : Nat) (s : State) (g : s.BusGood) : (State.tick n s).BusGood := by
  induction n generalizing s with
  | zero => exact g
  | succ n ih => exact ih _ (dot_busGood s g)

end Sys2Proof.Machine
end

