-- ==== Sys2Proof/Laws/Exec.lean ====
section
/-! SUPPORT. What an instruction does to the CPU's control registers and to F, that it completes, and
the dots it takes, for each form once. -/

namespace Sys2Proof.Machine

/-- The control registers of the CPU that only EI, DI, RETI and HALT write (R40 to R42). -/
def SameControl (c d : Cpu) : Prop :=
  d.ime = c.ime ∧ d.imeSched = c.imeSched ∧ d.halted = c.halted ∧ d.holdPc = c.holdPc

theorem setReg_control (s : State) (r : Reg8) (v : Byte) : SameControl s.cpu (s.setReg r v).cpu := by
  cases r <;> exact ⟨rfl, rfl, rfl, rfl⟩

theorem setPair_control (s : State) (p : Pair) (v : Word) :
    SameControl s.cpu (s.setPair p v).cpu := by cases p <;> exact ⟨rfl, rfl, rfl, rfl⟩

theorem setStackPair_control (s : State) (p : StackPair) (v : Word) :
    SameControl s.cpu (s.setStackPair p v).cpu := by cases p <;> exact ⟨rfl, rfl, rfl, rfl⟩

theorem alu_control (s : State) (op : AluOp) (v : Byte) : SameControl s.cpu (s.alu op v).cpu := by
  cases op <;> exact ⟨rfl, rfl, rfl, rfl⟩

theorem getOperand_cpu (s : State) (z : Operand) : (s.getOperand z).2.cpu = s.cpu := by
  cases z with
  | reg r => rfl
  | indHl => exact State.touch_cpu s _

theorem putOperand_control (s : State) (z : Operand) (v : Byte) :
    SameControl s.cpu (s.putOperand z v).cpu := by
  cases z with
  | reg r => exact setReg_control s r v
  | indHl =>
    show SameControl s.cpu (s.set8 s.hl v).cpu
    rw [State.set8_cpu]
    exact ⟨rfl, rfl, rfl, rfl⟩

theorem SameControl.refl (c : Cpu) : SameControl c c := ⟨rfl, rfl, rfl, rfl⟩

theorem SameControl.trans {c d e : Cpu} (h : SameControl c d) (k : SameControl d e) :
    SameControl c e :=
  ⟨k.1.trans h.1, k.2.1.trans h.2.1, k.2.2.1.trans h.2.2.1, k.2.2.2.trans h.2.2.2⟩

theorem SameControl.finish {n : Nat} {s u t : State} (h : finish n u = .next t)
    (k : SameControl s.cpu u.cpu) : SameControl s.cpu t.cpu := by
  cases h
  exact k

theorem push16_cpu (s : State) (v : Word) : (s.push16 v).cpu = { s.cpu with sp := s.cpu.sp - 2 } := by
  rw [State.push16_eq]

theorem pop16_cpu (s : State) : s.pop16.2.cpu = { s.cpu with sp := s.cpu.sp + 2 } := by
  simp [State.pop16_eq, State.setSp]

/-- The forms that write the control registers are EI, DI, RETI and HALT. -/
theorem runForm_control (f : Form) (s t : State) (np : ∀ op2, f ≠ .prefixed op2)
    (e : runForm f s = .next t) (h1 : f ≠ .ei) (h2 : f ≠ .di) (h3 : f ≠ .reti) (h4 : f ≠ .halt) :
    SameControl s.cpu t.cpu := by
  cases f with
  | ei | di | reti | halt => contradiction
  | prefixed op2 => exact absurd rfl (np op2)
  | illegal op =>
    simp only [runForm, illegal] at e
    split at e
    · exact .finish e (.refl _)
    · cases e
  | stop =>
    simp only [runForm, stop] at e
    split at e
    · exact .finish e (.refl _)
    · cases e
  | ldRegReg dst r => exact .finish e (setReg_control _ _ _)
  | ldRegImm dst n => exact .finish e (setReg_control _ _ _)
  | ldRegMem dst =>
    refine .finish e (.trans ?_ (setReg_control _ _ _))
    simp [SameControl]
  | ldMemReg r | ldMemImm n | storeA m | storeSp nn | storeAStep up | incMem | decMem | loadA m
  | loadAStep up =>
    refine .finish e ?_
    simp [SameControl, State.setHl, State.setReg, State.setF]
  | ldPairImm p nn => exact .finish e (setPair_control _ _ _)
  | aluReg op r => exact .finish e (alu_control _ _ _)
  | aluImm op r => exact .finish e (alu_control _ _ _)
  | aluMem op =>
    refine .finish e (.trans ?_ (alu_control _ _ _))
    simp [SameControl]
  | incPair p | decPair p => exact .finish e (setPair_control _ _ _)
  | incReg r | decReg r => exact .finish e ((setReg_control _ _ _).trans ⟨rfl, rfl, rfl, rfl⟩)
  | cbRot k z =>
    refine .finish e (.trans ?_ ((putOperand_control _ _ _).trans ⟨rfl, rfl, rfl, rfl⟩))
    show SameControl s.cpu (s.getOperand z).2.cpu
    rw [getOperand_cpu]
    exact .refl _
  | cbBit b z =>
    refine .finish e ?_
    show SameControl s.cpu { (s.getOperand z).2.cpu with f := _ }
    rw [getOperand_cpu]
    exact ⟨rfl, rfl, rfl, rfl⟩
  | cbRes b z | cbSet b z =>
    refine .finish e (.trans ?_ (putOperand_control _ _ _))
    show SameControl s.cpu (s.getOperand z).2.cpu
    rw [getOperand_cpu]
    exact .refl _
  | jpIf cc nn =>
    simp only [runForm, jumpIf] at e
    split at e <;> exact .finish e ⟨rfl, rfl, rfl, rfl⟩
  | jrIf cc d =>
    simp only [runForm, jumpRelIf] at e
    split at e <;> exact .finish e ⟨rfl, rfl, rfl, rfl⟩
  | call nn | rst y | push p =>
    refine .finish e ?_
    simp [push16_cpu, SameControl, State.setPc]
  | callIf cc nn =>
    simp only [runForm, callIf] at e
    split at e
    · refine .finish e ?_
      simp [push16_cpu, SameControl, State.setPc]
    · exact .finish e (.refl _)
  | ret =>
    refine .finish e ?_
    simp [State.setPc, SameControl]
  | retIf cc =>
    simp only [runForm, retIf] at e
    split at e
    · refine .finish e ?_
      simp [State.setPc, SameControl, pop16_cpu]
    · exact .finish e (.refl _)
  | pop p =>
    refine .finish e (.trans ?_ (setStackPair_control _ _ _))
    simp [SameControl]
  | _ => exact .finish e ⟨rfl, rfl, rfl, rfl⟩

theorem setReg_f (s : State) (r : Reg8) (v : Byte) : (s.setReg r v).cpu.f = s.cpu.f := by
  cases r <;> rfl
theorem setPair_f (s : State) (p : Pair) (v : Word) : (s.setPair p v).cpu.f = s.cpu.f := by
  cases p <;> rfl
theorem putOperand_f (s : State) (z : Operand) (v : Byte) : (s.putOperand z v).cpu.f = s.cpu.f := by
  cases z with
  | reg r => exact setReg_f s r v
  | indHl =>
    show (s.set8 s.hl v).cpu.f = _
    rw [State.set8_cpu]

/-- The low nibble of F stays zero (R33). -/
theorem runForm_flagsOk (f : Form) (s t : State) (np : ∀ op2, f ≠ .prefixed op2)
    (e : runForm f s = .next t) (g : s.flagsOk) : t.flagsOk := by
  have fin : ∀ {n u}, finish n u = .next t → u.cpu.f &&& 0x0F = 0 → t.flagsOk := by
    intro n u h k
    cases h
    exact k
  have fb := fun z n h c => flagByte_low z n h c
  have gk : s.cpu.f &&& 15#8 = 0#8 := g
  cases f with
  | prefixed op2 => exact absurd rfl (np op2)
  | illegal op =>
    simp only [runForm, illegal] at e
    split at e
    · exact fin e g
    · cases e
  | stop =>
    simp only [runForm, stop] at e
    split at e
    · exact fin e g
    · cases e
  | halt =>
    simp only [runForm, suspend] at e
    split at e <;> exact fin e g
  | ldRegReg dst r | ldRegImm dst n => exact fin e (by rw [setReg_f]; exact g)
  | ldRegMem dst => exact fin e (by rw [setReg_f]; simpa [State.get8] using gk)
  | ldMemReg r | ldMemImm n | storeA m | storeSp nn | storeAStep up | loadA m | loadAStep up =>
    exact fin e (by simpa [State.get8, State.setHl, State.setReg] using gk)
  | incMem | decMem => exact fin e (fb _ _ _ _)
  | ldPairImm p nn => exact fin e (by rw [setPair_f]; exact g)
  | aluReg op r => exact fin e (by cases op <;> exact fb _ _ _ _)
  | aluImm op r => exact fin e (by cases op <;> exact fb _ _ _ _)
  | aluMem op => exact fin e (by cases op <;> exact fb _ _ _ _)
  | incPair p | decPair p => exact fin e (by rw [setPair_f]; exact g)
  | incReg r | decReg r => exact fin e (fb _ _ _ _)
  | ldHlSp d | addSp d | addHl p | cpl | scf | ccf | rotA k => exact fin e (fb _ _ _ _)
  | daa => exact fin e (fb _ _ _ _)
  | cbRot k z => exact fin e (fb _ _ _ _)
  | cbBit b z => exact fin e (fb _ _ _ _)
  | cbRes b z | cbSet b z =>
    refine fin e ?_
    rw [putOperand_f]
    show (s.getOperand z).2.cpu.f &&& 0x0F = 0
    rw [getOperand_cpu]
    exact g
  | jpIf cc nn =>
    simp only [runForm, jumpIf] at e
    split at e <;> exact fin e g
  | jrIf cc d =>
    simp only [runForm, jumpRelIf] at e
    split at e <;> exact fin e g
  | call nn | rst y | push p => exact fin e (by simpa [push16_cpu, State.setPc] using gk)
  | callIf cc nn =>
    simp only [runForm, callIf] at e
    split at e
    · exact fin e (by simpa [push16_cpu, State.setPc] using gk)
    · exact fin e g
  | ret => exact fin e (by simpa [pop16_cpu, State.setPc] using gk)
  | reti => exact fin e (by simpa [State.returnFromInterrupt, pop16_cpu, State.setPc] using gk)
  | retIf cc =>
    simp only [runForm, retIf] at e
    split at e
    · exact fin e (by simpa [pop16_cpu, State.setPc] using gk)
    · exact fin e g
  | pop p =>
    refine fin e ?_
    cases p with
    | af => exact and_F0_low _
    | _ => simpa [State.setStackPair, State.setPair, State.setHl, pop16_cpu] using gk
  | _ => exact fin e g

/-- The dots of a form that completes are a positive multiple of 4, the illegal bytes apart (R380). -/
theorem runForm_dots (f : Form) (s t : State) (np : ∀ op2, f ≠ .prefixed op2)
    (e : runForm f s = .next t) :
    t.cycles = s.params.illegalCycles ∨ 0 < t.cycles ∧ 4 ∣ t.cycles := by
  have fin : ∀ {n u}, finish n u = .next t → n = s.params.illegalCycles ∨ 0 < n ∧ 4 ∣ n →
      t.cycles = s.params.illegalCycles ∨ 0 < t.cycles ∧ 4 ∣ t.cycles := by
    intro n u h k
    cases h
    exact k
  cases f with
  | prefixed op2 => exact absurd rfl (np op2)
  | illegal op =>
    simp only [runForm, illegal] at e
    split at e
    · exact fin e (.inl rfl)
    · cases e
  | stop =>
    simp only [runForm, stop] at e
    split at e
    · exact fin e (.inr (by decide))
    · cases e
  | halt =>
    simp only [runForm, suspend] at e
    split at e <;> exact fin e (.inr (by decide))
  | loadA m | storeA m => cases m <;> exact fin e (.inr ⟨Nat.zero_lt_succ _, by simp⟩)
  | cbRot k z | cbBit b z | cbRes b z | cbSet b z => cases z <;> exact fin e (.inr (by simp [Operand.dots]))
  | jpIf cc nn =>
    simp only [runForm, jumpIf] at e
    split at e <;> exact fin e (.inr (by decide))
  | jrIf cc d =>
    simp only [runForm, jumpRelIf] at e
    split at e <;> exact fin e (.inr (by decide))
  | callIf cc nn =>
    simp only [runForm, callIf] at e
    split at e <;> exact fin e (.inr (by decide))
  | retIf cc =>
    simp only [runForm, retIf] at e
    split at e <;> exact fin e (.inr (by decide))
  | _ => exact fin e (.inr (by decide))

/-- Every form completes, but for the two refusals that parameters ask for (R377, R378). -/
theorem runForm_answers (f : Form) (s : State) (np : ∀ op2, f ≠ .prefixed op2) :
    (∃ t, runForm f s = .next t) ∨
      f = .stop ∧ s.params.stopMode = .refuse ∧ runForm f s = .refused .stopRefused ∨
      ∃ op, f = .illegal op ∧ s.params.illegalMode = .refuse ∧
        runForm f s = .refused (.illegalOpcode op) := by
  cases f with
  | prefixed op2 => exact absurd rfl (np op2)
  | illegal op =>
    cases h : s.params.illegalMode with
    | nop => exact .inl ⟨_, by simp only [runForm, illegal, h]; rfl⟩
    | refuse => exact .inr (.inr ⟨op, rfl, rfl, by simp only [runForm, illegal, h]⟩)
  | stop =>
    cases h : s.params.stopMode with
    | nop => exact .inl ⟨_, by simp only [runForm, stop, h]; rfl⟩
    | refuse => exact .inr (.inl ⟨rfl, rfl, by simp only [runForm, stop, h]⟩)
  | halt =>
    simp only [runForm, suspend]
    split <;> exact .inl ⟨_, rfl⟩
  | jpIf cc nn =>
    simp only [runForm, jumpIf]
    split <;> exact .inl ⟨_, rfl⟩
  | jrIf cc d =>
    simp only [runForm, jumpRelIf]
    split <;> exact .inl ⟨_, rfl⟩
  | callIf cc nn =>
    simp only [runForm, callIf]
    split <;> exact .inl ⟨_, rfl⟩
  | retIf cc =>
    simp only [runForm, retIf]
    split <;> exact .inl ⟨_, rfl⟩
  | _ => exact .inl ⟨_, rfl⟩

theorem setReg_sp (s : State) (r : Reg8) (v : Byte) : (s.setReg r v).cpu.sp = s.cpu.sp := by
  cases r <;> rfl
theorem setReg_pc (s : State) (r : Reg8) (v : Byte) : (s.setReg r v).cpu.pc = s.cpu.pc := by
  cases r <;> rfl
theorem setPair_sp (s : State) (p : Pair) (v : Word) (h : p ≠ .sp) :
    (s.setPair p v).cpu.sp = s.cpu.sp := by cases p <;> first | rfl | contradiction
theorem setPair_pc (s : State) (p : Pair) (v : Word) : (s.setPair p v).cpu.pc = s.cpu.pc := by
  cases p <;> rfl
theorem alu_sp (s : State) (op : AluOp) (v : Byte) : (s.alu op v).cpu.sp = s.cpu.sp := by
  cases op <;> rfl
theorem alu_pc (s : State) (op : AluOp) (v : Byte) : (s.alu op v).cpu.pc = s.cpu.pc := by
  cases op <;> rfl
theorem put_sp (s : State) (z : Operand) (v : Byte) : (s.putOperand z v).cpu.sp = s.cpu.sp := by
  cases z with
  | reg r => exact setReg_sp s r v
  | indHl => exact congrArg Cpu.sp (State.set8_cpu s s.hl v)
theorem put_pc (s : State) (z : Operand) (v : Byte) : (s.putOperand z v).cpu.pc = s.cpu.pc := by
  cases z with
  | reg r => exact setReg_pc s r v
  | indHl => exact congrArg Cpu.pc (State.set8_cpu s s.hl v)
theorem stackPair_f (s : State) (p : StackPair) (v : Word) (h : p ≠ .af) :
    (s.setStackPair p v).cpu.f = s.cpu.f := by cases p <;> first | rfl | contradiction
theorem stackPair_pc (s : State) (p : StackPair) (v : Word) :
    (s.setStackPair p v).cpu.pc = s.cpu.pc := by cases p <;> rfl


/-- What `frame` says of a form and of the CPU before and after. -/
abbrev Form.Leaves (f : Form) (c d : Cpu) : Prop :=
  (f.writesF = false → d.f = c.f) ∧ (f.writesSp = false → d.sp = c.sp) ∧
    (f.writesPc = false → d.pc = c.pc)

/-- The forms that leave F, SP and PC are the ones `Form.writesF`, `writesSp` and `writesPc` do not
name. -/
theorem runForm_leaves (f : Form) (s t : State) (np : ∀ op2, f ≠ .prefixed op2)
    (e : runForm f s = .next t) : f.Leaves s.cpu t.cpu := by
  have fin : ∀ {n u}, finish n u = .next t → f.Leaves s.cpu u.cpu → f.Leaves s.cpu t.cpu := by
    intro n u h k
    cases h
    exact k
  have same : f.Leaves s.cpu s.cpu := ⟨fun _ => rfl, fun _ => rfl, fun _ => rfl⟩
  have no : ∀ {p : Prop}, true = false → p := fun h => absurd h (by decide)
  have pf : ∀ v, (s.push16 v).cpu.f = s.cpu.f := fun v => by
    rw [push16_cpu]
  have pp : ∀ v, (s.push16 v).cpu.pc = s.cpu.pc := fun v => by
    rw [push16_cpu]
  have qf : s.pop16.2.cpu.f = s.cpu.f := by rw [pop16_cpu]
  have qp : s.pop16.2.cpu.pc = s.cpu.pc := by rw [pop16_cpu]
  have ch : ∀ {α} (g : Cpu → α) a, g (s.touch a).cpu = g s.cpu := fun g a => by
    rw [State.touch_cpu]
  have cs : ∀ {α} (g : Cpu → α) a v b, g ((s.touch b).set8 a v).cpu = g s.cpu := fun g a v b => by
    rw [State.set8_cpu, State.touch_cpu]
  have c1 : ∀ {α} (g : Cpu → α) a v, g (s.set8 a v).cpu = g s.cpu := fun g a v => by
    rw [State.set8_cpu]
  have c2 : ∀ {α} (g : Cpu → α) a v, g (s.set16 a v).cpu = g s.cpu := fun g a v => by
    rw [State.set16_cpu]
  have gf : ∀ z, (s.getOperand z).2.cpu = s.cpu := getOperand_cpu s
  cases f with
  | prefixed op2 => exact absurd rfl (np op2)
  | cbRot k z =>
    exact fin e ⟨no, fun _ => (put_sp _ _ _).trans (congrArg Cpu.sp (gf z)),
      fun _ => (put_pc _ _ _).trans (congrArg Cpu.pc (gf z))⟩
  | cbBit b z =>
    exact fin e ⟨no, fun _ => show (s.getOperand z).2.cpu.sp = _ from congrArg Cpu.sp (gf z),
      fun _ => show (s.getOperand z).2.cpu.pc = _ from congrArg Cpu.pc (gf z)⟩
  | cbRes k z | cbSet k z =>
    exact fin e ⟨fun _ => (putOperand_f _ _ _).trans (congrArg Cpu.f (gf z)),
      fun _ => (put_sp _ _ _).trans (congrArg Cpu.sp (gf z)),
      fun _ => (put_pc _ _ _).trans (congrArg Cpu.pc (gf z))⟩
  | ldRegReg dst r | ldRegImm dst n =>
    exact fin e ⟨fun _ => setReg_f _ _ _, fun _ => setReg_sp _ _ _, fun _ => setReg_pc _ _ _⟩
  | ldRegMem dst =>
    exact fin e ⟨fun _ => (setReg_f _ _ _).trans (ch Cpu.f _),
      fun _ => (setReg_sp _ _ _).trans (ch Cpu.sp _), fun _ => (setReg_pc _ _ _).trans (ch Cpu.pc _)⟩
  | ldPairImm p nn | incPair p | decPair p =>
    exact fin e ⟨fun _ => setPair_f _ _ _,
      fun h => setPair_sp _ _ _ (by rintro rfl; cases h), fun _ => setPair_pc _ _ _⟩
  | aluReg op r | aluImm op r => exact fin e ⟨no, fun _ => alu_sp _ _ _, fun _ => alu_pc _ _ _⟩
  | aluMem op =>
    exact fin e ⟨no, fun _ => (alu_sp _ _ _).trans (ch Cpu.sp _),
      fun _ => (alu_pc _ _ _).trans (ch Cpu.pc _)⟩
  | incReg r | decReg r => exact fin e ⟨no, fun _ => setReg_sp _ _ _, fun _ => setReg_pc _ _ _⟩
  | illegal op =>
    simp only [runForm, illegal] at e
    split at e
    · exact fin e same
    · cases e
  | stop =>
    simp only [runForm, stop] at e
    split at e
    · exact fin e same
    · cases e
  | halt =>
    simp only [runForm, suspend] at e
    split at e <;> exact fin e same
  | jpIf cc nn =>
    simp only [runForm, jumpIf] at e
    split at e <;> exact fin e ⟨fun _ => rfl, fun _ => rfl, no⟩
  | jrIf cc nn =>
    simp only [runForm, jumpRelIf] at e
    split at e <;> exact fin e ⟨fun _ => rfl, fun _ => rfl, no⟩
  | callIf cc nn =>
    simp only [runForm, callIf] at e
    split at e
    · exact fin e ⟨fun _ => pf _, no, no⟩
    · exact fin e ⟨fun _ => rfl, fun _ => rfl, no⟩
  | retIf cc =>
    simp only [runForm, retIf] at e
    split at e
    · exact fin e ⟨fun _ => qf, no, no⟩
    · exact fin e ⟨fun _ => rfl, fun _ => rfl, no⟩
  | ret | reti => exact fin e ⟨fun _ => qf, no, no⟩
  | call nn | rst y => exact fin e ⟨fun _ => pf _, no, no⟩
  | push y => exact fin e ⟨fun _ => pf _, no, fun _ => pp _⟩
  | pop p =>
    exact fin e ⟨fun h => (stackPair_f _ _ _ (by rintro rfl; cases h)).trans qf, no,
      fun _ => (stackPair_pc _ _ _).trans qp⟩
  | jp nn | jpHl | jr nn => exact fin e ⟨fun _ => rfl, fun _ => rfl, no⟩
  | loadA m | loadAStep m => exact fin e ⟨fun _ => ch Cpu.f _, fun _ => ch Cpu.sp _, fun _ => ch Cpu.pc _⟩
  | incMem | decMem => exact fin e ⟨no, fun _ => cs Cpu.sp _ _ _, fun _ => cs Cpu.pc _ _ _⟩
  | ldMemReg r | ldMemImm r | storeA r | storeAStep r =>
    exact fin e ⟨fun _ => c1 Cpu.f _ _, fun _ => c1 Cpu.sp _ _, fun _ => c1 Cpu.pc _ _⟩
  | storeSp r => exact fin e ⟨fun _ => c2 Cpu.f _ _, fun _ => c2 Cpu.sp _ _, fun _ => c2 Cpu.pc _ _⟩
  | ldSpHl => exact fin e ⟨fun _ => rfl, no, fun _ => rfl⟩
  | addSp _ => exact fin e ⟨no, no, fun _ => rfl⟩
  | ldHlSp _ | addHl _ | daa | cpl | scf | ccf | rotA _ =>
    exact fin e ⟨no, fun _ => rfl, fun _ => rfl⟩
  | nop | di | ei => exact fin e same

/-- What a CB form never writes, and which forms it is not. -/
theorem cbForm_plain (op2 : Byte) :
    (cbForm op2).writesSp = false ∧ (cbForm op2).writesPc = false ∧ cbForm op2 ≠ .ei ∧
      cbForm op2 ≠ .di ∧ cbForm op2 ≠ .reti ∧ cbForm op2 ≠ .halt := by
  unfold cbForm
  generalize op2.extractLsb' 6 2 = x
  match x with
  | 0 | 1 | 2 | 3 => exact ⟨rfl, rfl, by simp, by simp, by simp, by simp⟩

/-- EI, DI, RETI and HALT are the only instructions of their forms. -/
theorem formOf_control (i : Instr) :
    (formOf i = .ei → i = .ei) ∧ (formOf i = .di → i = .di) ∧ (formOf i = .reti → i = .reti) ∧
      (formOf i = .halt → i = .halt) := by
  cases i <;> exact ⟨fun h => by cases h <;> rfl, fun h => by cases h <;> rfl,
    fun h => by cases h <;> rfl, fun h => by cases h <;> rfl⟩

/-! ## The step -/

theorem fetch8_cpu (s : State) : s.fetch8.2.cpu = { s.cpu with pc := s.cpu.pc + 1 } := by
  simp [State.fetch8, State.setPc, State.get8]

theorem fetch8_quiet (s : State) : Quiet s s.fetch8.2 := (quiet_touch _ _).trans rfl

theorem fetch16_cpu (s : State) : s.fetch16.2.cpu = { s.cpu with pc := s.cpu.pc + 1 + 1 } := by
  show s.fetch8.2.fetch8.2.cpu = _
  rw [fetch8_cpu, fetch8_cpu]

theorem fetch16_quiet (s : State) : Quiet s s.fetch16.2 := (fetch8_quiet _).trans (fetch8_quiet _)

/-- The opcode fetch moves PC on, and ends the double fetch of the HALT bug (R376). -/
theorem fetchOpcode_cpu (s : State) :
    s.fetchOpcode.2.cpu =
      if s.cpu.holdPc then { s.cpu with holdPc := false } else { s.cpu with pc := s.cpu.pc + 1 } := by
  unfold State.fetchOpcode
  split
  · simp [State.get8]
  · exact fetch8_cpu s

theorem fetchOpcode_quiet (s : State) : Quiet s s.fetchOpcode.2 := by
  unfold State.fetchOpcode
  split
  · exact (quiet_touch _ _).trans rfl
  · exact fetch8_quiet s

/-- Whatever the bytes at PC are, executing is running one instruction on a state that differs by its
fetch only. -/
theorem execute_cases (s : State) :
    ∃ i u pc, Quiet s u ∧ u.cpu = { s.cpu with holdPc := false, pc := pc } ∧ s.execute = exec i u := by
  have q := fetchOpcode_quiet s
  have c : ∃ pc, s.fetchOpcode.2.cpu = { s.cpu with holdPc := false, pc := pc } := by
    rw [fetchOpcode_cpu]
    split
    · exact ⟨_, rfl⟩
    · rename_i h
      exact ⟨_, by rw [← Bool.not_eq_true _ |>.mp h]⟩
  obtain ⟨pc, c⟩ := c
  unfold State.execute
  cases h : decodeOp s.fetchOpcode.1 with
  | op i => exact ⟨i, _, pc, q, c, by simp only [h]⟩
  | imm8 f =>
    exact ⟨f s.fetchOpcode.2.fetch8.1, _, _, q.trans (fetch8_quiet _), by rw [fetch8_cpu, c],
      by simp only [h]⟩
  | imm16 f =>
    exact ⟨f s.fetchOpcode.2.fetch16.1, _, _, q.trans (fetch16_quiet _), by rw [fetch16_cpu, c],
      by simp only [h]⟩
  | cbPrefix =>
    exact ⟨decodeCb s.fetchOpcode.2.fetch8.1, _, _, q.trans (fetch8_quiet _),
      by rw [fetch8_cpu, c], by simp only [h]⟩

/-- The count-down of the EI delay touches IME and the delay only (R379). -/
theorem countDown_eq (s : State) :
    s.countDown = { s with
      cpu.ime := s.cpu.ime || s.cpu.imeSched == 1
      cpu.imeSched := if s.cpu.imeSched = 2 then 1 else 0 } := by
  unfold State.countDown
  split
  · rename_i h
    simp [h]
    rw [← h]
  all_goals
    rename_i h
    simp [h]

theorem countDown_quiet (s : State) : Quiet s s.countDown := by
  rw [countDown_eq]
  rfl

/-- Interrupt entry: the IF bit cleared, two stores, the CPU's registers (R507). -/
theorem State.enterInterrupt_eq (s : State) (k : Nat) :
    s.enterInterrupt k =
      { ({ s with irq.flags := s.irq.flags &&& ~~~((1 : BitVec 5) <<< k) }.set8 (s.cpu.sp - 2)
          (lo s.cpu.pc)).set8 (s.cpu.sp - 2 + 1) (hi s.cpu.pc) with
        cpu := { s.cpu with ime := false, imeSched := 0, sp := s.cpu.sp - 2, pc := vector k }
        cycles := 20 } := by
  have e := State.set8_cpu_comm { s with irq.flags := s.irq.flags &&& ~~~((1 : BitVec 5) <<< k) }
    { s.cpu with ime := false, imeSched := 0, sp := s.cpu.sp - 2 } s.cycles
    (s.cpu.sp - 2) (lo s.cpu.pc)
  simp only [State.enterInterrupt, State.push16, State.set16, State.setSp, State.setPc]
  rw [e, State.set8_cpu_comm]

end Sys2Proof.Machine
end

