-- ==== Sys2Proof/Tests/Slice0.lean ====
section
/-! SUPPORT. Tests: the opcode table's words and dots, one-step vectors of 95_test_vectors.md, lines of
the compositor's table, the checks of WellFormed, and a witness for every statement with hypotheses. -/

namespace Sys2Proof.Tests

open Sys2Proof Sys2Proof.Machine

-- One thread: many kernel evaluations at once ask for more memory than the check allows.
set_option Elab.async false

/-- The state after reset with these bytes at the entry point (95_test_vectors.md, conventions). -/
def boot (bytes : List Byte) : State := State.reset.placeBytes 0x0100 bytes

/-- The step gives a next state that `p` holds of. -/
def after (s : State) (p : State → Bool) : Bool :=
  match step s with
  | .next t => p t
  | _ => false

/-- The bytes decode to the instruction, none left, and it encodes as them. -/
def reads (bytes : List Byte) (i : Instr) : Bool :=
  encode i == bytes &&
    match decode bytes with
    | .ok (j, []) => i == j
    | _ => false

/-- The instruction completes in these dots from the state after reset (Z, H and C are 1 there, so the
conditions Z and C hold, and NZ and NC do not). -/
def costs (i : Instr) (dots : Nat) : Bool :=
  match exec i State.reset with
  | .next t => t.cycles == dots
  | _ => false

/-- Rows of spec/opcode_table.json: a word written out from the row's encoding, with operand bytes
0x12 or 0x34 0x12; the instruction; its dots. -/
def tableRows (rows : List (List Byte × Instr × Nat)) : Bool :=
  rows.all fun r => reads r.1 r.2.1 && costs r.2.1 r.2.2

/-! ## WellFormed: the check refuses the prefix as an instruction of its own (R154), nothing else -/

theorem test_prefix_is_no_instruction : wellFormed (.prefixCb 0x47) = false := by decide

theorem test_cb_instruction_is_well_formed : wellFormed .bit0A = true := by decide

theorem test_prefix_never_decoded : decode [0xCB, 0x47] = .ok (.bit0A, []) := by decide

theorem test_short_word_refused : decode [0xC3, 0x00] = .error .truncated := by decide

theorem test_lone_prefix_refused : decode [0xCB] = .error .truncated := by decide

/-! ## The opcode table: words and dots -/

theorem test_table_base_0 : tableRows [
    ([0x00], .nop, 4), ([0x01, 0x34, 0x12], (.ldBcNn 0x1234), 12), ([0x02], .ldIndBcA, 8),
    ([0x03], .incBc, 8), ([0x04], .incB, 4), ([0x05], .decB, 4), ([0x06, 0x12], (.ldBN 0x12), 8),
    ([0x07], .rlca, 4), ([0x08, 0x34, 0x12], (.ldIndNnSp 0x1234), 20), ([0x09], .addHlBc, 8),
    ([0x0A], .ldAIndBc, 8), ([0x0B], .decBc, 8), ([0x0C], .incC, 4), ([0x0D], .decC, 4),
    ([0x0E, 0x12], (.ldCN 0x12), 8), ([0x0F], .rrca, 4)] = true := by decide +kernel

theorem test_table_base_1 : tableRows [
    ([0x10, 0x12], (.stop 0x12), 4), ([0x11, 0x34, 0x12], (.ldDeNn 0x1234), 12), ([0x12], .ldIndDeA, 8),
    ([0x13], .incDe, 8), ([0x14], .incD, 4), ([0x15], .decD, 4), ([0x16, 0x12], (.ldDN 0x12), 8),
    ([0x17], .rla, 4), ([0x18, 0x12], (.jrE 0x12), 12), ([0x19], .addHlDe, 8), ([0x1A], .ldAIndDe, 8),
    ([0x1B], .decDe, 8), ([0x1C], .incE, 4), ([0x1D], .decE, 4), ([0x1E, 0x12], (.ldEN 0x12), 8),
    ([0x1F], .rra, 4)] = true := by decide +kernel

theorem test_table_base_2 : tableRows [
    ([0x20, 0x12], (.jrNzE 0x12), 8), ([0x21, 0x34, 0x12], (.ldHlNn 0x1234), 12),
    ([0x22], .ldIndHlIncA, 8), ([0x23], .incHl, 8), ([0x24], .incH, 4), ([0x25], .decH, 4),
    ([0x26, 0x12], (.ldHN 0x12), 8), ([0x27], .daa, 4), ([0x28, 0x12], (.jrZE 0x12), 12),
    ([0x29], .addHlHl, 8), ([0x2A], .ldAIndHlInc, 8), ([0x2B], .decHl, 8), ([0x2C], .incL, 4),
    ([0x2D], .decL, 4), ([0x2E, 0x12], (.ldLN 0x12), 8), ([0x2F], .cpl, 4)] = true := by decide +kernel

theorem test_table_base_3 : tableRows [
    ([0x30, 0x12], (.jrNcE 0x12), 8), ([0x31, 0x34, 0x12], (.ldSpNn 0x1234), 12),
    ([0x32], .ldIndHlDecA, 8), ([0x33], .incSp, 8), ([0x34], .incIndHl, 12), ([0x35], .decIndHl, 12),
    ([0x36, 0x12], (.ldIndHlN 0x12), 12), ([0x37], .scf, 4), ([0x38, 0x12], (.jrCE 0x12), 12),
    ([0x39], .addHlSp, 8), ([0x3A], .ldAIndHlDec, 8), ([0x3B], .decSp, 8), ([0x3C], .incA, 4),
    ([0x3D], .decA, 4), ([0x3E, 0x12], (.ldAN 0x12), 8), ([0x3F], .ccf, 4)] = true := by decide +kernel

theorem test_table_base_4 : tableRows [
    ([0x40], .ldBB, 4), ([0x41], .ldBC, 4), ([0x42], .ldBD, 4), ([0x43], .ldBE, 4), ([0x44], .ldBH, 4),
    ([0x45], .ldBL, 4), ([0x46], .ldBIndHl, 8), ([0x47], .ldBA, 4), ([0x48], .ldCB, 4),
    ([0x49], .ldCC, 4), ([0x4A], .ldCD, 4), ([0x4B], .ldCE, 4), ([0x4C], .ldCH, 4), ([0x4D], .ldCL, 4),
    ([0x4E], .ldCIndHl, 8), ([0x4F], .ldCA, 4)] = true := by decide +kernel

theorem test_table_base_5 : tableRows [
    ([0x50], .ldDB, 4), ([0x51], .ldDC, 4), ([0x52], .ldDD, 4), ([0x53], .ldDE, 4), ([0x54], .ldDH, 4),
    ([0x55], .ldDL, 4), ([0x56], .ldDIndHl, 8), ([0x57], .ldDA, 4), ([0x58], .ldEB, 4),
    ([0x59], .ldEC, 4), ([0x5A], .ldED, 4), ([0x5B], .ldEE, 4), ([0x5C], .ldEH, 4), ([0x5D], .ldEL, 4),
    ([0x5E], .ldEIndHl, 8), ([0x5F], .ldEA, 4)] = true := by decide +kernel

theorem test_table_base_6 : tableRows [
    ([0x60], .ldHB, 4), ([0x61], .ldHC, 4), ([0x62], .ldHD, 4), ([0x63], .ldHE, 4), ([0x64], .ldHH, 4),
    ([0x65], .ldHL, 4), ([0x66], .ldHIndHl, 8), ([0x67], .ldHA, 4), ([0x68], .ldLB, 4),
    ([0x69], .ldLC, 4), ([0x6A], .ldLD, 4), ([0x6B], .ldLE, 4), ([0x6C], .ldLH, 4), ([0x6D], .ldLL, 4),
    ([0x6E], .ldLIndHl, 8), ([0x6F], .ldLA, 4)] = true := by decide +kernel

theorem test_table_base_7 : tableRows [
    ([0x70], .ldIndHlB, 8), ([0x71], .ldIndHlC, 8), ([0x72], .ldIndHlD, 8), ([0x73], .ldIndHlE, 8),
    ([0x74], .ldIndHlH, 8), ([0x75], .ldIndHlL, 8), ([0x76], .halt, 4), ([0x77], .ldIndHlA, 8),
    ([0x78], .ldAB, 4), ([0x79], .ldAC, 4), ([0x7A], .ldAD, 4), ([0x7B], .ldAE, 4), ([0x7C], .ldAH, 4),
    ([0x7D], .ldAL, 4), ([0x7E], .ldAIndHl, 8), ([0x7F], .ldAA, 4)] = true := by decide +kernel

theorem test_table_base_8 : tableRows [
    ([0x80], .addAB, 4), ([0x81], .addAC, 4), ([0x82], .addAD, 4), ([0x83], .addAE, 4),
    ([0x84], .addAH, 4), ([0x85], .addAL, 4), ([0x86], .addAIndHl, 8), ([0x87], .addAA, 4),
    ([0x88], .adcAB, 4), ([0x89], .adcAC, 4), ([0x8A], .adcAD, 4), ([0x8B], .adcAE, 4),
    ([0x8C], .adcAH, 4), ([0x8D], .adcAL, 4), ([0x8E], .adcAIndHl, 8), ([0x8F], .adcAA, 4)] = true := by decide +kernel

theorem test_table_base_9 : tableRows [
    ([0x90], .subAB, 4), ([0x91], .subAC, 4), ([0x92], .subAD, 4), ([0x93], .subAE, 4),
    ([0x94], .subAH, 4), ([0x95], .subAL, 4), ([0x96], .subAIndHl, 8), ([0x97], .subAA, 4),
    ([0x98], .sbcAB, 4), ([0x99], .sbcAC, 4), ([0x9A], .sbcAD, 4), ([0x9B], .sbcAE, 4),
    ([0x9C], .sbcAH, 4), ([0x9D], .sbcAL, 4), ([0x9E], .sbcAIndHl, 8), ([0x9F], .sbcAA, 4)] = true := by decide +kernel

theorem test_table_base_A : tableRows [
    ([0xA0], .andAB, 4), ([0xA1], .andAC, 4), ([0xA2], .andAD, 4), ([0xA3], .andAE, 4),
    ([0xA4], .andAH, 4), ([0xA5], .andAL, 4), ([0xA6], .andAIndHl, 8), ([0xA7], .andAA, 4),
    ([0xA8], .xorAB, 4), ([0xA9], .xorAC, 4), ([0xAA], .xorAD, 4), ([0xAB], .xorAE, 4),
    ([0xAC], .xorAH, 4), ([0xAD], .xorAL, 4), ([0xAE], .xorAIndHl, 8), ([0xAF], .xorAA, 4)] = true := by decide +kernel

theorem test_table_base_B : tableRows [
    ([0xB0], .orAB, 4), ([0xB1], .orAC, 4), ([0xB2], .orAD, 4), ([0xB3], .orAE, 4), ([0xB4], .orAH, 4),
    ([0xB5], .orAL, 4), ([0xB6], .orAIndHl, 8), ([0xB7], .orAA, 4), ([0xB8], .cpAB, 4),
    ([0xB9], .cpAC, 4), ([0xBA], .cpAD, 4), ([0xBB], .cpAE, 4), ([0xBC], .cpAH, 4), ([0xBD], .cpAL, 4),
    ([0xBE], .cpAIndHl, 8), ([0xBF], .cpAA, 4)] = true := by decide +kernel

theorem test_table_base_C : tableRows [
    ([0xC0], .retNz, 8), ([0xC1], .popBc, 12), ([0xC2, 0x34, 0x12], (.jpNzNn 0x1234), 12),
    ([0xC3, 0x34, 0x12], (.jpNn 0x1234), 16), ([0xC4, 0x34, 0x12], (.callNzNn 0x1234), 12),
    ([0xC5], .pushBc, 16), ([0xC6, 0x12], (.addAN 0x12), 8), ([0xC7], .rst00, 16), ([0xC8], .retZ, 20),
    ([0xC9], .ret, 16), ([0xCA, 0x34, 0x12], (.jpZNn 0x1234), 16),
    ([0xCC, 0x34, 0x12], (.callZNn 0x1234), 24), ([0xCD, 0x34, 0x12], (.callNn 0x1234), 24),
    ([0xCE, 0x12], (.adcAN 0x12), 8), ([0xCF], .rst08, 16)] = true := by decide +kernel

theorem test_table_base_D : tableRows [
    ([0xD0], .retNc, 8), ([0xD1], .popDe, 12), ([0xD2, 0x34, 0x12], (.jpNcNn 0x1234), 12),
    ([0xD3], .illegalD3, 4), ([0xD4, 0x34, 0x12], (.callNcNn 0x1234), 12), ([0xD5], .pushDe, 16),
    ([0xD6, 0x12], (.subAN 0x12), 8), ([0xD7], .rst10, 16), ([0xD8], .retC, 20), ([0xD9], .reti, 16),
    ([0xDA, 0x34, 0x12], (.jpCNn 0x1234), 16), ([0xDB], .illegalDB, 4),
    ([0xDC, 0x34, 0x12], (.callCNn 0x1234), 24), ([0xDD], .illegalDD, 4),
    ([0xDE, 0x12], (.sbcAN 0x12), 8), ([0xDF], .rst18, 16)] = true := by decide +kernel

theorem test_table_base_E : tableRows [
    ([0xE0, 0x12], (.ldhIndNA 0x12), 12), ([0xE1], .popHl, 12), ([0xE2], .ldIndCA, 8),
    ([0xE3], .illegalE3, 4), ([0xE4], .illegalE4, 4), ([0xE5], .pushHl, 16),
    ([0xE6, 0x12], (.andAN 0x12), 8), ([0xE7], .rst20, 16), ([0xE8, 0x12], (.addSpE 0x12), 16),
    ([0xE9], .jpHl, 4), ([0xEA, 0x34, 0x12], (.ldIndNnA 0x1234), 16), ([0xEB], .illegalEB, 4),
    ([0xEC], .illegalEC, 4), ([0xED], .illegalED, 4), ([0xEE, 0x12], (.xorAN 0x12), 8),
    ([0xEF], .rst28, 16)] = true := by decide +kernel

theorem test_table_base_F : tableRows [
    ([0xF0, 0x12], (.ldhAIndN 0x12), 12), ([0xF1], .popAf, 12), ([0xF2], .ldAIndC, 8), ([0xF3], .di, 4),
    ([0xF4], .illegalF4, 4), ([0xF5], .pushAf, 16), ([0xF6, 0x12], (.orAN 0x12), 8),
    ([0xF7], .rst30, 16), ([0xF8, 0x12], (.ldHlSpE 0x12), 12), ([0xF9], .ldSpHl, 8),
    ([0xFA, 0x34, 0x12], (.ldAIndNn 0x1234), 16), ([0xFB], .ei, 4), ([0xFC], .illegalFC, 4),
    ([0xFD], .illegalFD, 4), ([0xFE, 0x12], (.cpAN 0x12), 8), ([0xFF], .rst38, 16)] = true := by decide +kernel

theorem test_table_cb_0 : tableRows [
    ([0xCB, 0x00], .rlcB, 8), ([0xCB, 0x01], .rlcC, 8), ([0xCB, 0x02], .rlcD, 8),
    ([0xCB, 0x03], .rlcE, 8), ([0xCB, 0x04], .rlcH, 8), ([0xCB, 0x05], .rlcL, 8),
    ([0xCB, 0x06], .rlcIndHl, 16), ([0xCB, 0x07], .rlcA, 8), ([0xCB, 0x08], .rrcB, 8),
    ([0xCB, 0x09], .rrcC, 8), ([0xCB, 0x0A], .rrcD, 8), ([0xCB, 0x0B], .rrcE, 8),
    ([0xCB, 0x0C], .rrcH, 8), ([0xCB, 0x0D], .rrcL, 8), ([0xCB, 0x0E], .rrcIndHl, 16),
    ([0xCB, 0x0F], .rrcA, 8)] = true := by decide +kernel

theorem test_table_cb_1 : tableRows [
    ([0xCB, 0x10], .rlB, 8), ([0xCB, 0x11], .rlC, 8), ([0xCB, 0x12], .rlD, 8), ([0xCB, 0x13], .rlE, 8),
    ([0xCB, 0x14], .rlH, 8), ([0xCB, 0x15], .rlL, 8), ([0xCB, 0x16], .rlIndHl, 16),
    ([0xCB, 0x17], .rlA, 8), ([0xCB, 0x18], .rrB, 8), ([0xCB, 0x19], .rrC, 8), ([0xCB, 0x1A], .rrD, 8),
    ([0xCB, 0x1B], .rrE, 8), ([0xCB, 0x1C], .rrH, 8), ([0xCB, 0x1D], .rrL, 8),
    ([0xCB, 0x1E], .rrIndHl, 16), ([0xCB, 0x1F], .rrA, 8)] = true := by decide +kernel

theorem test_table_cb_2 : tableRows [
    ([0xCB, 0x20], .slaB, 8), ([0xCB, 0x21], .slaC, 8), ([0xCB, 0x22], .slaD, 8),
    ([0xCB, 0x23], .slaE, 8), ([0xCB, 0x24], .slaH, 8), ([0xCB, 0x25], .slaL, 8),
    ([0xCB, 0x26], .slaIndHl, 16), ([0xCB, 0x27], .slaA, 8), ([0xCB, 0x28], .sraB, 8),
    ([0xCB, 0x29], .sraC, 8), ([0xCB, 0x2A], .sraD, 8), ([0xCB, 0x2B], .sraE, 8),
    ([0xCB, 0x2C], .sraH, 8), ([0xCB, 0x2D], .sraL, 8), ([0xCB, 0x2E], .sraIndHl, 16),
    ([0xCB, 0x2F], .sraA, 8)] = true := by decide +kernel

theorem test_table_cb_3 : tableRows [
    ([0xCB, 0x30], .swapB, 8), ([0xCB, 0x31], .swapC, 8), ([0xCB, 0x32], .swapD, 8),
    ([0xCB, 0x33], .swapE, 8), ([0xCB, 0x34], .swapH, 8), ([0xCB, 0x35], .swapL, 8),
    ([0xCB, 0x36], .swapIndHl, 16), ([0xCB, 0x37], .swapA, 8), ([0xCB, 0x38], .srlB, 8),
    ([0xCB, 0x39], .srlC, 8), ([0xCB, 0x3A], .srlD, 8), ([0xCB, 0x3B], .srlE, 8),
    ([0xCB, 0x3C], .srlH, 8), ([0xCB, 0x3D], .srlL, 8), ([0xCB, 0x3E], .srlIndHl, 16),
    ([0xCB, 0x3F], .srlA, 8)] = true := by decide +kernel

theorem test_table_cb_4 : tableRows [
    ([0xCB, 0x40], .bit0B, 8), ([0xCB, 0x41], .bit0C, 8), ([0xCB, 0x42], .bit0D, 8),
    ([0xCB, 0x43], .bit0E, 8), ([0xCB, 0x44], .bit0H, 8), ([0xCB, 0x45], .bit0L, 8),
    ([0xCB, 0x46], .bit0IndHl, 12), ([0xCB, 0x47], .bit0A, 8), ([0xCB, 0x48], .bit1B, 8),
    ([0xCB, 0x49], .bit1C, 8), ([0xCB, 0x4A], .bit1D, 8), ([0xCB, 0x4B], .bit1E, 8),
    ([0xCB, 0x4C], .bit1H, 8), ([0xCB, 0x4D], .bit1L, 8), ([0xCB, 0x4E], .bit1IndHl, 12),
    ([0xCB, 0x4F], .bit1A, 8)] = true := by decide +kernel

theorem test_table_cb_5 : tableRows [
    ([0xCB, 0x50], .bit2B, 8), ([0xCB, 0x51], .bit2C, 8), ([0xCB, 0x52], .bit2D, 8),
    ([0xCB, 0x53], .bit2E, 8), ([0xCB, 0x54], .bit2H, 8), ([0xCB, 0x55], .bit2L, 8),
    ([0xCB, 0x56], .bit2IndHl, 12), ([0xCB, 0x57], .bit2A, 8), ([0xCB, 0x58], .bit3B, 8),
    ([0xCB, 0x59], .bit3C, 8), ([0xCB, 0x5A], .bit3D, 8), ([0xCB, 0x5B], .bit3E, 8),
    ([0xCB, 0x5C], .bit3H, 8), ([0xCB, 0x5D], .bit3L, 8), ([0xCB, 0x5E], .bit3IndHl, 12),
    ([0xCB, 0x5F], .bit3A, 8)] = true := by decide +kernel

theorem test_table_cb_6 : tableRows [
    ([0xCB, 0x60], .bit4B, 8), ([0xCB, 0x61], .bit4C, 8), ([0xCB, 0x62], .bit4D, 8),
    ([0xCB, 0x63], .bit4E, 8), ([0xCB, 0x64], .bit4H, 8), ([0xCB, 0x65], .bit4L, 8),
    ([0xCB, 0x66], .bit4IndHl, 12), ([0xCB, 0x67], .bit4A, 8), ([0xCB, 0x68], .bit5B, 8),
    ([0xCB, 0x69], .bit5C, 8), ([0xCB, 0x6A], .bit5D, 8), ([0xCB, 0x6B], .bit5E, 8),
    ([0xCB, 0x6C], .bit5H, 8), ([0xCB, 0x6D], .bit5L, 8), ([0xCB, 0x6E], .bit5IndHl, 12),
    ([0xCB, 0x6F], .bit5A, 8)] = true := by decide +kernel

theorem test_table_cb_7 : tableRows [
    ([0xCB, 0x70], .bit6B, 8), ([0xCB, 0x71], .bit6C, 8), ([0xCB, 0x72], .bit6D, 8),
    ([0xCB, 0x73], .bit6E, 8), ([0xCB, 0x74], .bit6H, 8), ([0xCB, 0x75], .bit6L, 8),
    ([0xCB, 0x76], .bit6IndHl, 12), ([0xCB, 0x77], .bit6A, 8), ([0xCB, 0x78], .bit7B, 8),
    ([0xCB, 0x79], .bit7C, 8), ([0xCB, 0x7A], .bit7D, 8), ([0xCB, 0x7B], .bit7E, 8),
    ([0xCB, 0x7C], .bit7H, 8), ([0xCB, 0x7D], .bit7L, 8), ([0xCB, 0x7E], .bit7IndHl, 12),
    ([0xCB, 0x7F], .bit7A, 8)] = true := by decide +kernel

theorem test_table_cb_8 : tableRows [
    ([0xCB, 0x80], .res0B, 8), ([0xCB, 0x81], .res0C, 8), ([0xCB, 0x82], .res0D, 8),
    ([0xCB, 0x83], .res0E, 8), ([0xCB, 0x84], .res0H, 8), ([0xCB, 0x85], .res0L, 8),
    ([0xCB, 0x86], .res0IndHl, 16), ([0xCB, 0x87], .res0A, 8), ([0xCB, 0x88], .res1B, 8),
    ([0xCB, 0x89], .res1C, 8), ([0xCB, 0x8A], .res1D, 8), ([0xCB, 0x8B], .res1E, 8),
    ([0xCB, 0x8C], .res1H, 8), ([0xCB, 0x8D], .res1L, 8), ([0xCB, 0x8E], .res1IndHl, 16),
    ([0xCB, 0x8F], .res1A, 8)] = true := by decide +kernel

theorem test_table_cb_9 : tableRows [
    ([0xCB, 0x90], .res2B, 8), ([0xCB, 0x91], .res2C, 8), ([0xCB, 0x92], .res2D, 8),
    ([0xCB, 0x93], .res2E, 8), ([0xCB, 0x94], .res2H, 8), ([0xCB, 0x95], .res2L, 8),
    ([0xCB, 0x96], .res2IndHl, 16), ([0xCB, 0x97], .res2A, 8), ([0xCB, 0x98], .res3B, 8),
    ([0xCB, 0x99], .res3C, 8), ([0xCB, 0x9A], .res3D, 8), ([0xCB, 0x9B], .res3E, 8),
    ([0xCB, 0x9C], .res3H, 8), ([0xCB, 0x9D], .res3L, 8), ([0xCB, 0x9E], .res3IndHl, 16),
    ([0xCB, 0x9F], .res3A, 8)] = true := by decide +kernel

theorem test_table_cb_A : tableRows [
    ([0xCB, 0xA0], .res4B, 8), ([0xCB, 0xA1], .res4C, 8), ([0xCB, 0xA2], .res4D, 8),
    ([0xCB, 0xA3], .res4E, 8), ([0xCB, 0xA4], .res4H, 8), ([0xCB, 0xA5], .res4L, 8),
    ([0xCB, 0xA6], .res4IndHl, 16), ([0xCB, 0xA7], .res4A, 8), ([0xCB, 0xA8], .res5B, 8),
    ([0xCB, 0xA9], .res5C, 8), ([0xCB, 0xAA], .res5D, 8), ([0xCB, 0xAB], .res5E, 8),
    ([0xCB, 0xAC], .res5H, 8), ([0xCB, 0xAD], .res5L, 8), ([0xCB, 0xAE], .res5IndHl, 16),
    ([0xCB, 0xAF], .res5A, 8)] = true := by decide +kernel

theorem test_table_cb_B : tableRows [
    ([0xCB, 0xB0], .res6B, 8), ([0xCB, 0xB1], .res6C, 8), ([0xCB, 0xB2], .res6D, 8),
    ([0xCB, 0xB3], .res6E, 8), ([0xCB, 0xB4], .res6H, 8), ([0xCB, 0xB5], .res6L, 8),
    ([0xCB, 0xB6], .res6IndHl, 16), ([0xCB, 0xB7], .res6A, 8), ([0xCB, 0xB8], .res7B, 8),
    ([0xCB, 0xB9], .res7C, 8), ([0xCB, 0xBA], .res7D, 8), ([0xCB, 0xBB], .res7E, 8),
    ([0xCB, 0xBC], .res7H, 8), ([0xCB, 0xBD], .res7L, 8), ([0xCB, 0xBE], .res7IndHl, 16),
    ([0xCB, 0xBF], .res7A, 8)] = true := by decide +kernel

theorem test_table_cb_C : tableRows [
    ([0xCB, 0xC0], .set0B, 8), ([0xCB, 0xC1], .set0C, 8), ([0xCB, 0xC2], .set0D, 8),
    ([0xCB, 0xC3], .set0E, 8), ([0xCB, 0xC4], .set0H, 8), ([0xCB, 0xC5], .set0L, 8),
    ([0xCB, 0xC6], .set0IndHl, 16), ([0xCB, 0xC7], .set0A, 8), ([0xCB, 0xC8], .set1B, 8),
    ([0xCB, 0xC9], .set1C, 8), ([0xCB, 0xCA], .set1D, 8), ([0xCB, 0xCB], .set1E, 8),
    ([0xCB, 0xCC], .set1H, 8), ([0xCB, 0xCD], .set1L, 8), ([0xCB, 0xCE], .set1IndHl, 16),
    ([0xCB, 0xCF], .set1A, 8)] = true := by decide +kernel

theorem test_table_cb_D : tableRows [
    ([0xCB, 0xD0], .set2B, 8), ([0xCB, 0xD1], .set2C, 8), ([0xCB, 0xD2], .set2D, 8),
    ([0xCB, 0xD3], .set2E, 8), ([0xCB, 0xD4], .set2H, 8), ([0xCB, 0xD5], .set2L, 8),
    ([0xCB, 0xD6], .set2IndHl, 16), ([0xCB, 0xD7], .set2A, 8), ([0xCB, 0xD8], .set3B, 8),
    ([0xCB, 0xD9], .set3C, 8), ([0xCB, 0xDA], .set3D, 8), ([0xCB, 0xDB], .set3E, 8),
    ([0xCB, 0xDC], .set3H, 8), ([0xCB, 0xDD], .set3L, 8), ([0xCB, 0xDE], .set3IndHl, 16),
    ([0xCB, 0xDF], .set3A, 8)] = true := by decide +kernel

theorem test_table_cb_E : tableRows [
    ([0xCB, 0xE0], .set4B, 8), ([0xCB, 0xE1], .set4C, 8), ([0xCB, 0xE2], .set4D, 8),
    ([0xCB, 0xE3], .set4E, 8), ([0xCB, 0xE4], .set4H, 8), ([0xCB, 0xE5], .set4L, 8),
    ([0xCB, 0xE6], .set4IndHl, 16), ([0xCB, 0xE7], .set4A, 8), ([0xCB, 0xE8], .set5B, 8),
    ([0xCB, 0xE9], .set5C, 8), ([0xCB, 0xEA], .set5D, 8), ([0xCB, 0xEB], .set5E, 8),
    ([0xCB, 0xEC], .set5H, 8), ([0xCB, 0xED], .set5L, 8), ([0xCB, 0xEE], .set5IndHl, 16),
    ([0xCB, 0xEF], .set5A, 8)] = true := by decide +kernel

theorem test_table_cb_F : tableRows [
    ([0xCB, 0xF0], .set6B, 8), ([0xCB, 0xF1], .set6C, 8), ([0xCB, 0xF2], .set6D, 8),
    ([0xCB, 0xF3], .set6E, 8), ([0xCB, 0xF4], .set6H, 8), ([0xCB, 0xF5], .set6L, 8),
    ([0xCB, 0xF6], .set6IndHl, 16), ([0xCB, 0xF7], .set6A, 8), ([0xCB, 0xF8], .set7B, 8),
    ([0xCB, 0xF9], .set7C, 8), ([0xCB, 0xFA], .set7D, 8), ([0xCB, 0xFB], .set7E, 8),
    ([0xCB, 0xFC], .set7H, 8), ([0xCB, 0xFD], .set7L, 8), ([0xCB, 0xFE], .set7IndHl, 16),
    ([0xCB, 0xFF], .set7A, 8)] = true := by decide +kernel

/-! ## One step: the vectors of 95_test_vectors.md sections 2.1 to 2.8 -/

theorem test_LD_B_C :
    after ({ boot [0x41] with
        cpu.c := 0x77 }) (fun t =>
      t.cycles == 4 && t.cpu.b == 0x77 && t.cpu.pc == 0x0101) = true := by decide +kernel

theorem test_LD_ind_HL_n :
    after ({ boot [0x36, 0x5A] with
        cpu.h := 0xC0, cpu.l := 0x00 }) (fun t =>
      t.cycles == 12 && t.cpu.pc == 0x0102 && t.peek 0xC000 == 0x5A) = true := by decide +kernel

theorem test_LD_ind_HL_plus_A :
    after ({ boot [0x22] with
        cpu.a := 0x11, cpu.h := 0xC0, cpu.l := 0xFF }) (fun t =>
      t.cycles == 8 && t.cpu.h == 0xC1 && t.cpu.l == 0x00 && t.cpu.pc == 0x0101 &&
        t.peek 0xC0FF == 0x11) = true := by decide +kernel

theorem test_LD_A_ind_HL_minus :
    after ({ (boot [0x3A]).place 0xC000 0x99 with
        cpu.h := 0xC0, cpu.l := 0x00 }) (fun t =>
      t.cycles == 8 && t.cpu.a == 0x99 && t.cpu.h == 0xBF && t.cpu.l == 0xFF &&
        t.cpu.pc == 0x0101) = true := by decide +kernel

theorem test_LD_A_ind_BC :
    after ({ (boot [0x0A]).place 0xC010 0x42 with
        cpu.b := 0xC0, cpu.c := 0x10 }) (fun t =>
      t.cycles == 8 && t.cpu.a == 0x42 && t.cpu.pc == 0x0101) = true := by decide +kernel

theorem test_LD_ind_DE_A :
    after ({ boot [0x12] with
        cpu.a := 0x33, cpu.d := 0xC0, cpu.e := 0x20 }) (fun t =>
      t.cycles == 8 && t.cpu.pc == 0x0101 && t.peek 0xC020 == 0x33) = true := by decide +kernel

theorem test_LDH_ind_n_A :
    after ({ boot [0xE0, 0x80] with
        cpu.a := 0x44 }) (fun t =>
      t.cycles == 12 && t.cpu.pc == 0x0102 && t.peek 0xFF80 == 0x44) = true := by decide +kernel

theorem test_LD_A_ind_C :
    after ({ (boot [0xF2]).place 0xFF81 0x66 with
        cpu.c := 0x81 }) (fun t =>
      t.cycles == 8 && t.cpu.a == 0x66 && t.cpu.pc == 0x0101) = true := by decide +kernel

theorem test_LD_ind_nn_A :
    after ({ boot [0xEA, 0x00, 0xC1] with
        cpu.a := 0x77 }) (fun t =>
      t.cycles == 16 && t.cpu.pc == 0x0103 && t.peek 0xC100 == 0x77) = true := by decide +kernel

theorem test_LD_A_ind_nn :
    after ((boot [0xFA, 0x00, 0xC1]).place 0xC100 0x88) (fun t =>
      t.cycles == 16 && t.cpu.a == 0x88 && t.cpu.pc == 0x0103) = true := by decide +kernel

theorem test_LD_BC_nn :
    after (boot [0x01, 0x34, 0x12]) (fun t =>
      t.cycles == 12 && t.cpu.b == 0x12 && t.cpu.c == 0x34 &&
        t.cpu.pc == 0x0103) = true := by decide +kernel

theorem test_LD_ind_nn_SP :
    after ({ boot [0x08, 0x00, 0xC2] with
        cpu.sp := 0xABCD }) (fun t =>
      t.cycles == 20 && t.cpu.pc == 0x0103 && t.peek 0xC200 == 0xCD &&
        t.peek 0xC201 == 0xAB) = true := by decide +kernel

theorem test_LD_SP_HL :
    after ({ boot [0xF9] with
        cpu.h := 0xD0, cpu.l := 0x00 }) (fun t =>
      t.cycles == 8 && t.cpu.sp == 0xD000 && t.cpu.pc == 0x0101) = true := by decide +kernel

theorem test_LD_HL_SP_plus_e_e_plus_1_low_minus_byte_carries :
    after ({ boot [0xF8, 0x01] with
        cpu.sp := 0x00FF }) (fun t =>
      t.cycles == 12 && t.cpu.f == 0x30 && t.cpu.l == 0x00 &&
        t.cpu.pc == 0x0102) = true := by decide +kernel

theorem test_LD_HL_SP_plus_e_e_minus_1 :
    after ({ boot [0xF8, 0xFF] with
        cpu.sp := 0x0000 }) (fun t =>
      t.cycles == 12 && t.cpu.f == 0x00 && t.cpu.h == 0xFF && t.cpu.l == 0xFF &&
        t.cpu.pc == 0x0102) = true := by decide +kernel

theorem test_ADD_SP_e_e_minus_1_from_0x0001 :
    after ({ boot [0xE8, 0xFF] with
        cpu.sp := 0x0001 }) (fun t =>
      t.cycles == 16 && t.cpu.f == 0x30 && t.cpu.sp == 0x0000 &&
        t.cpu.pc == 0x0102) = true := by decide +kernel

theorem test_ADD_SP_e_e_plus_0x10_from_0xFFF8 :
    after ({ boot [0xE8, 0x10] with
        cpu.sp := 0xFFF8 }) (fun t =>
      t.cycles == 16 && t.cpu.f == 0x10 && t.cpu.sp == 0x0008 &&
        t.cpu.pc == 0x0102) = true := by decide +kernel

theorem test_ADD_A_n_FF_plus_01 :
    after ({ boot [0xC6, 0x01] with
        cpu.a := 0xFF, cpu.f := 0x00 }) (fun t =>
      t.cycles == 8 && t.cpu.a == 0x00 && t.cpu.f == 0xB0 &&
        t.cpu.pc == 0x0102) = true := by decide +kernel

theorem test_ADD_A_n_0F_plus_01 :
    after ({ boot [0xC6, 0x01] with
        cpu.a := 0x0F, cpu.f := 0x00 }) (fun t =>
      t.cycles == 8 && t.cpu.a == 0x10 && t.cpu.f == 0x20 &&
        t.cpu.pc == 0x0102) = true := by decide +kernel

theorem test_ADC_A_n_with_C_1_FF_plus_00 :
    after ({ boot [0xCE, 0x00] with
        cpu.a := 0xFF, cpu.f := 0x10 }) (fun t =>
      t.cycles == 8 && t.cpu.a == 0x00 && t.cpu.f == 0xB0 &&
        t.cpu.pc == 0x0102) = true := by decide +kernel

theorem test_ADC_A_B_with_C_1_E1_plus_0F :
    after ({ boot [0x88] with
        cpu.a := 0xE1, cpu.b := 0x0F, cpu.f := 0x10 }) (fun t =>
      t.cycles == 4 && t.cpu.a == 0xF1 && t.cpu.f == 0x20 &&
        t.cpu.pc == 0x0101) = true := by decide +kernel

theorem test_SUB_A_n_10_minus_01 :
    after ({ boot [0xD6, 0x01] with
        cpu.a := 0x10, cpu.f := 0x00 }) (fun t =>
      t.cycles == 8 && t.cpu.a == 0x0F && t.cpu.f == 0x60 &&
        t.cpu.pc == 0x0102) = true := by decide +kernel

theorem test_SUB_A_A :
    after ({ boot [0x97] with
        cpu.a := 0x5A, cpu.f := 0x00 }) (fun t =>
      t.cycles == 4 && t.cpu.a == 0x00 && t.cpu.f == 0xC0 &&
        t.cpu.pc == 0x0101) = true := by decide +kernel

theorem test_SBC_A_n_with_C_1_10_minus_0F :
    after ({ boot [0xDE, 0x0F] with
        cpu.a := 0x10, cpu.f := 0x10 }) (fun t =>
      t.cycles == 8 && t.cpu.a == 0x00 && t.cpu.f == 0xE0 &&
        t.cpu.pc == 0x0102) = true := by decide +kernel

theorem test_SBC_A_A_with_C_1 :
    after ({ boot [0x9F] with
        cpu.a := 0x42, cpu.f := 0x10 }) (fun t =>
      t.cycles == 4 && t.cpu.a == 0xFF && t.cpu.f == 0x70 &&
        t.cpu.pc == 0x0101) = true := by decide +kernel

theorem test_AND_A_n :
    after ({ boot [0xE6, 0x0F] with
        cpu.a := 0xF0, cpu.f := 0x10 }) (fun t =>
      t.cycles == 8 && t.cpu.a == 0x00 && t.cpu.f == 0xA0 &&
        t.cpu.pc == 0x0102) = true := by decide +kernel

theorem test_XOR_A_A :
    after ({ boot [0xAF] with
        cpu.a := 0x5A, cpu.f := 0x70 }) (fun t =>
      t.cycles == 4 && t.cpu.a == 0x00 && t.cpu.f == 0x80 &&
        t.cpu.pc == 0x0101) = true := by decide +kernel

theorem test_OR_A_n :
    after ({ boot [0xF6, 0x01] with
        cpu.a := 0x80, cpu.f := 0xF0 }) (fun t =>
      t.cycles == 8 && t.cpu.a == 0x81 && t.cpu.f == 0x00 &&
        t.cpu.pc == 0x0102) = true := by decide +kernel

theorem test_CP_A_n_A_n :
    after ({ boot [0xFE, 0x40] with
        cpu.a := 0x3C, cpu.f := 0x00 }) (fun t =>
      t.cycles == 8 && t.cpu.f == 0x50 && t.cpu.pc == 0x0102) = true := by decide +kernel

theorem test_CP_A_ind_HL :
    after ({ (boot [0xBE]).place 0xC000 0x01 with
        cpu.a := 0x10, cpu.f := 0x00, cpu.h := 0xC0, cpu.l := 0x00 }) (fun t =>
      t.cycles == 8 && t.cpu.f == 0x60 && t.cpu.pc == 0x0101) = true := by decide +kernel

theorem test_ADD_A_ind_HL :
    after ({ (boot [0x86]).place 0xC000 0xFF with
        cpu.a := 0x01, cpu.f := 0x00, cpu.h := 0xC0, cpu.l := 0x00 }) (fun t =>
      t.cycles == 8 && t.cpu.a == 0x00 && t.cpu.f == 0xB0 &&
        t.cpu.pc == 0x0101) = true := by decide +kernel

theorem test_ADD_HL_BC_0FFF_plus_0001 :
    after ({ boot [0x09] with
        cpu.h := 0x0F, cpu.l := 0xFF, cpu.b := 0x00, cpu.c := 0x01, cpu.f := 0x80 }) (fun t =>
      t.cycles == 8 && t.cpu.f == 0xA0 && t.cpu.h == 0x10 && t.cpu.l == 0x00 &&
        t.cpu.pc == 0x0101) = true := by decide +kernel

theorem test_ADD_HL_HL_8000 :
    after ({ boot [0x29] with
        cpu.h := 0x80, cpu.l := 0x00, cpu.f := 0x40 }) (fun t =>
      t.cycles == 8 && t.cpu.f == 0x10 && t.cpu.h == 0x00 &&
        t.cpu.pc == 0x0101) = true := by decide +kernel

theorem test_INC_BC_wraps :
    after ({ boot [0x03] with
        cpu.b := 0xFF, cpu.c := 0xFF, cpu.f := 0x00 }) (fun t =>
      t.cycles == 8 && t.cpu.b == 0x00 && t.cpu.c == 0x00 &&
        t.cpu.pc == 0x0101) = true := by decide +kernel

theorem test_DEC_DE_wraps :
    after ({ boot [0x1B] with
        cpu.d := 0x00, cpu.e := 0x00, cpu.f := 0x00 }) (fun t =>
      t.cycles == 8 && t.cpu.d == 0xFF && t.cpu.e == 0xFF &&
        t.cpu.pc == 0x0101) = true := by decide +kernel

theorem test_INC_A_FF_C_kept :
    after ({ boot [0x3C] with
        cpu.a := 0xFF, cpu.f := 0x10 }) (fun t =>
      t.cycles == 4 && t.cpu.a == 0x00 && t.cpu.f == 0xB0 &&
        t.cpu.pc == 0x0101) = true := by decide +kernel

theorem test_DEC_D_00 :
    after ({ boot [0x15] with
        cpu.d := 0x00, cpu.f := 0x10 }) (fun t =>
      t.cycles == 4 && t.cpu.f == 0x70 && t.cpu.d == 0xFF &&
        t.cpu.pc == 0x0101) = true := by decide +kernel

theorem test_INC_ind_HL :
    after ({ (boot [0x34]).place 0xC000 0xFF with
        cpu.h := 0xC0, cpu.l := 0x00, cpu.f := 0x00 }) (fun t =>
      t.cycles == 12 && t.cpu.f == 0xA0 && t.cpu.pc == 0x0101 &&
        t.peek 0xC000 == 0x00) = true := by decide +kernel

theorem test_DEC_ind_HL :
    after ({ (boot [0x35]).place 0xC000 0x01 with
        cpu.h := 0xC0, cpu.l := 0x00, cpu.f := 0x00 }) (fun t =>
      t.cycles == 12 && t.cpu.f == 0xC0 && t.cpu.pc == 0x0101 &&
        t.peek 0xC000 == 0x00) = true := by decide +kernel

theorem test_DAA_alone_A_0x0A :
    after ({ boot [0x27] with
        cpu.a := 0x0A, cpu.f := 0x00 }) (fun t =>
      t.cycles == 4 && t.cpu.a == 0x10 && t.cpu.pc == 0x0101) = true := by decide +kernel

theorem test_DAA_alone_A_0x00_Z :
    after ({ boot [0x27] with
        cpu.a := 0x00, cpu.f := 0x00 }) (fun t =>
      t.cycles == 4 && t.cpu.f == 0x80 && t.cpu.pc == 0x0101) = true := by decide +kernel

theorem test_CPL :
    after ({ boot [0x2F] with
        cpu.a := 0x35, cpu.f := 0x90 }) (fun t =>
      t.cycles == 4 && t.cpu.a == 0xCA && t.cpu.f == 0xF0 &&
        t.cpu.pc == 0x0101) = true := by decide +kernel

theorem test_SCF :
    after ({ boot [0x37] with
        cpu.f := 0xE0 }) (fun t =>
      t.cycles == 4 && t.cpu.f == 0x90 && t.cpu.pc == 0x0101) = true := by decide +kernel

theorem test_CCF_with_C_1 :
    after ({ boot [0x3F] with
        cpu.f := 0xB0 }) (fun t =>
      t.cycles == 4 && t.cpu.f == 0x80 && t.cpu.pc == 0x0101) = true := by decide +kernel

theorem test_NOP :
    after (boot [0x00]) (fun t =>
      t.cycles == 4 && t.cpu.pc == 0x0101) = true := by decide +kernel

theorem test_RLC_B_80 :
    after ({ boot [0xCB, 0x00] with
        cpu.b := 0x80, cpu.f := 0x00 }) (fun t =>
      t.cycles == 8 && t.cpu.f == 0x10 && t.cpu.b == 0x01 &&
        t.cpu.pc == 0x0102) = true := by decide +kernel

theorem test_RRC_D_01 :
    after ({ boot [0xCB, 0x0A] with
        cpu.d := 0x01, cpu.f := 0x00 }) (fun t =>
      t.cycles == 8 && t.cpu.f == 0x10 && t.cpu.d == 0x80 &&
        t.cpu.pc == 0x0102) = true := by decide +kernel

theorem test_RL_E_00_C_1 :
    after ({ boot [0xCB, 0x13] with
        cpu.e := 0x00, cpu.f := 0x10 }) (fun t =>
      t.cycles == 8 && t.cpu.f == 0x00 && t.cpu.e == 0x01 &&
        t.cpu.pc == 0x0102) = true := by decide +kernel

theorem test_RR_A_00_C_1 :
    after ({ boot [0xCB, 0x1F] with
        cpu.a := 0x00, cpu.f := 0x10 }) (fun t =>
      t.cycles == 8 && t.cpu.a == 0x80 && t.cpu.f == 0x00 &&
        t.cpu.pc == 0x0102) = true := by decide +kernel

theorem test_SLA_A_C1 :
    after ({ boot [0xCB, 0x27] with
        cpu.a := 0xC1, cpu.f := 0x00 }) (fun t =>
      t.cycles == 8 && t.cpu.a == 0x82 && t.cpu.f == 0x10 &&
        t.cpu.pc == 0x0102) = true := by decide +kernel

theorem test_SRA_B_81 :
    after ({ boot [0xCB, 0x28] with
        cpu.b := 0x81, cpu.f := 0x00 }) (fun t =>
      t.cycles == 8 && t.cpu.f == 0x10 && t.cpu.b == 0xC0 &&
        t.cpu.pc == 0x0102) = true := by decide +kernel

theorem test_SWAP_A_F0 :
    after ({ boot [0xCB, 0x37] with
        cpu.a := 0xF0, cpu.f := 0x10 }) (fun t =>
      t.cycles == 8 && t.cpu.a == 0x0F && t.cpu.f == 0x00 &&
        t.cpu.pc == 0x0102) = true := by decide +kernel

theorem test_SRL_A_FF :
    after ({ boot [0xCB, 0x3F] with
        cpu.a := 0xFF, cpu.f := 0x00 }) (fun t =>
      t.cycles == 8 && t.cpu.a == 0x7F && t.cpu.f == 0x10 &&
        t.cpu.pc == 0x0102) = true := by decide +kernel

theorem test_BIT_7_H_7F_C_kept :
    after ({ boot [0xCB, 0x7C] with
        cpu.h := 0x7F, cpu.f := 0x10 }) (fun t =>
      t.cycles == 8 && t.cpu.f == 0xB0 && t.cpu.pc == 0x0102) = true := by decide +kernel

theorem test_BIT_3_ind_HL :
    after ({ (boot [0xCB, 0x5E]).place 0xC000 0x08 with
        cpu.h := 0xC0, cpu.l := 0x00, cpu.f := 0x00 }) (fun t =>
      t.cycles == 12 && t.cpu.f == 0x20 && t.cpu.pc == 0x0102) = true := by decide +kernel

theorem test_RES_7_A :
    after ({ boot [0xCB, 0xBF] with
        cpu.a := 0xFF, cpu.f := 0x50 }) (fun t =>
      t.cycles == 8 && t.cpu.a == 0x7F && t.cpu.pc == 0x0102) = true := by decide +kernel

theorem test_SET_0_ind_HL :
    after ({ (boot [0xCB, 0xC6]).place 0xC000 0x00 with
        cpu.h := 0xC0, cpu.l := 0x00, cpu.f := 0x00 }) (fun t =>
      t.cycles == 16 && t.cpu.pc == 0x0102 && t.peek 0xC000 == 0x01) = true := by decide +kernel

theorem test_RLC_ind_HL :
    after ({ (boot [0xCB, 0x06]).place 0xC000 0x81 with
        cpu.h := 0xC0, cpu.l := 0x00, cpu.f := 0x00 }) (fun t =>
      t.cycles == 16 && t.cpu.f == 0x10 && t.cpu.pc == 0x0102 &&
        t.peek 0xC000 == 0x03) = true := by decide +kernel

theorem test_SWAP_ind_HL :
    after ({ (boot [0xCB, 0x36]).place 0xC000 0x12 with
        cpu.h := 0xC0, cpu.l := 0x00, cpu.f := 0x00 }) (fun t =>
      t.cycles == 16 && t.cpu.pc == 0x0102 && t.peek 0xC000 == 0x21) = true := by decide +kernel

theorem test_RLCA_00_Z_forced_0 :
    after ({ boot [0x07] with
        cpu.a := 0x00, cpu.f := 0x80 }) (fun t =>
      t.cycles == 4 && t.cpu.f == 0x00 && t.cpu.pc == 0x0101) = true := by decide +kernel

theorem test_RRCA_01 :
    after ({ boot [0x0F] with
        cpu.a := 0x01, cpu.f := 0x00 }) (fun t =>
      t.cycles == 4 && t.cpu.a == 0x80 && t.cpu.f == 0x10 &&
        t.cpu.pc == 0x0101) = true := by decide +kernel

theorem test_RLA_00_C_1 :
    after ({ boot [0x17] with
        cpu.a := 0x00, cpu.f := 0x10 }) (fun t =>
      t.cycles == 4 && t.cpu.a == 0x01 && t.cpu.f == 0x00 &&
        t.cpu.pc == 0x0101) = true := by decide +kernel

theorem test_RRA_01_C_0 :
    after ({ boot [0x1F] with
        cpu.a := 0x01, cpu.f := 0x00 }) (fun t =>
      t.cycles == 4 && t.cpu.a == 0x00 && t.cpu.f == 0x10 &&
        t.cpu.pc == 0x0101) = true := by decide +kernel

theorem test_JP_nn :
    after (boot [0xC3, 0x50, 0x01]) (fun t =>
      t.cycles == 16 && t.cpu.pc == 0x0150) = true := by decide +kernel

theorem test_JP_NZ_nn_not_taken :
    after ({ boot [0xC2, 0x50, 0x01] with
        cpu.f := 0x80 }) (fun t =>
      t.cycles == 12 && t.cpu.pc == 0x0103) = true := by decide +kernel

theorem test_JP_HL :
    after ({ boot [0xE9] with
        cpu.h := 0xC0, cpu.l := 0x00 }) (fun t =>
      t.cycles == 4 && t.cpu.pc == 0xC000) = true := by decide +kernel

theorem test_JR_plus_5 :
    after (boot [0x18, 0x05]) (fun t =>
      t.cycles == 12 && t.cpu.pc == 0x0107) = true := by decide +kernel

theorem test_JR_C_e_taken_backward :
    after ({ boot [0x38, 0x80] with
        cpu.f := 0x10 }) (fun t =>
      t.cycles == 12 && t.cpu.pc == 0x0082) = true := by decide +kernel

theorem test_CALL_nn :
    after ({ boot [0xCD, 0x00, 0x02] with
        cpu.sp := 0xFFFE }) (fun t =>
      t.cycles == 24 && t.cpu.sp == 0xFFFC && t.cpu.pc == 0x0200 && t.peek 0xFFFC == 0x03 &&
        t.peek 0xFFFD == 0x01) = true := by decide +kernel

theorem test_CALL_NC_nn_not_taken :
    after ({ boot [0xD4, 0x00, 0x02] with
        cpu.f := 0x10 }) (fun t =>
      t.cycles == 12 && t.cpu.pc == 0x0103) = true := by decide +kernel

theorem test_RET :
    after ({ ((boot [0xC9]).place 0xFFFC 0x34).place 0xFFFD 0x12 with
        cpu.sp := 0xFFFC }) (fun t =>
      t.cycles == 16 && t.cpu.sp == 0xFFFE && t.cpu.pc == 0x1234) = true := by decide +kernel

theorem test_RET_Z_not_taken :
    after ({ boot [0xC8] with
        cpu.sp := 0xFFFC, cpu.f := 0x00 }) (fun t =>
      t.cycles == 8 && t.cpu.pc == 0x0101) = true := by decide +kernel

theorem test_RET_NC_taken :
    after ({ ((boot [0xD0]).place 0xFFFC 0x00).place 0xFFFD 0x03 with
        cpu.sp := 0xFFFC, cpu.f := 0x00 }) (fun t =>
      t.cycles == 20 && t.cpu.sp == 0xFFFE && t.cpu.pc == 0x0300) = true := by decide +kernel

theorem test_RETI :
    after ({ ((boot [0xD9]).place 0xFFFC 0x00).place 0xFFFD 0x03 with
        cpu.sp := 0xFFFC, cpu.ime := false }) (fun t =>
      t.cycles == 16 && t.cpu.sp == 0xFFFE && t.cpu.pc == 0x0300 &&
        t.cpu.ime) = true := by decide +kernel

theorem test_RST_0x38 :
    after ({ boot [0xFF] with
        cpu.sp := 0xFFFE }) (fun t =>
      t.cycles == 16 && t.cpu.sp == 0xFFFC && t.cpu.pc == 0x0038 && t.peek 0xFFFC == 0x01 &&
        t.peek 0xFFFD == 0x01) = true := by decide +kernel

theorem test_PUSH_BC :
    after ({ boot [0xC5] with
        cpu.b := 0x12, cpu.c := 0x34, cpu.sp := 0xFFFE }) (fun t =>
      t.cycles == 16 && t.cpu.sp == 0xFFFC && t.cpu.pc == 0x0101 && t.peek 0xFFFC == 0x34 &&
        t.peek 0xFFFD == 0x12) = true := by decide +kernel

theorem test_POP_AF_masks_F :
    after ({ ((boot [0xF1]).place 0xFFFC 0xFF).place 0xFFFD 0x12 with
        cpu.sp := 0xFFFC }) (fun t =>
      t.cycles == 12 && t.cpu.a == 0x12 && t.cpu.f == 0xF0 && t.cpu.sp == 0xFFFE &&
        t.cpu.pc == 0x0101) = true := by decide +kernel

theorem test_POP_HL_at_SP_FFFE_wraps :
    after ({ ((boot [0xE1]).place 0xFFFE 0x01).place 0xFFFF 0x1F with
        cpu.sp := 0xFFFE }) (fun t =>
      t.cycles == 12 && t.cpu.h == 0x1F && t.cpu.l == 0x01 && t.cpu.sp == 0x0000 &&
        t.cpu.pc == 0x0101) = true := by decide +kernel

theorem test_DI :
    after ({ boot [0xF3] with
        cpu.ime := true }) (fun t =>
      t.cycles == 4 && t.cpu.pc == 0x0101 && !t.cpu.ime) = true := by decide +kernel

theorem test_IME_1_IF_16_IE_1F_priority :
    after ({ boot [0x00] with
        cpu.ime := true, cpu.sp := 0xFFFE, irq.enable := 0x1F, irq.flags := 0x16 }) (fun t =>
      t.cycles == 20 && t.cpu.sp == 0xFFFC && t.cpu.pc == 0x0048 && !t.cpu.ime &&
        t.irq.flags == 0x14) = true := by decide +kernel

theorem test_IME_1_IF_01_IE_00_not_taken :
    after ({ boot [0x00] with
        cpu.ime := true, irq.enable := 0x00, irq.flags := 0x01 }) (fun t =>
      t.cycles == 4 && t.cpu.pc == 0x0101) = true := by decide +kernel

theorem test_STOP_00 :
    after (boot [0x10, 0x00]) (fun t =>
      t.cycles == 4 && t.cpu.pc == 0x0102) = true := by decide +kernel

theorem test_illegal_D3 :
    after (boot [0xD3]) (fun t =>
      t.cycles == 4 && t.cpu.pc == 0x0101) = true := by decide +kernel

/-! ## The PPU: rows of 95_test_vectors.md section 2.9, from the state one dot before the event -/

/-- The machine with the LCD on at a place in the frame. -/
def placed (ly : Byte) (dots : Nat) (mode : LcdMode) (statEn : BitVec 4) (lyc : Byte) : State :=
  { State.reset with
    ppu.ly := ly, ppu.dots := dots, ppu.mode := mode, ppu.statEn := statEn, ppu.lyc := lyc }

theorem test_first_dot_enters_mode_2 :
    (State.tick 1 State.reset).ppu.mode = .oamScan ∧ (State.tick 1 State.reset).irq.flags = 0 := by
  decide +kernel

theorem test_mode_3_entry :
    let t := State.tick 1 (placed 0 79 .oamScan 0 0)
    t.ppu.mode = .transfer ∧ t.ppu.dots = 80 ∧ t.irq.flags = 0 := by decide +kernel

theorem test_line_1 :
    let t := State.tick 1 (placed 0 455 .hblank 0 0)
    t.ppu.mode = .oamScan ∧ t.ppu.dots = 0 ∧ t.ppu.ly = 1 ∧ t.irq.flags = 0 := by decide +kernel

theorem test_vblank_entry :
    let t := State.tick 1 (placed 143 455 .hblank 0 0)
    t.ppu.mode = .vblank ∧ t.ppu.ly = 144 ∧ t.irq.flags = 0x01 := by decide +kernel

theorem test_vblank_entry_with_mode_1_enable :
    (State.tick 1 (placed 143 455 .hblank 0b0010 0)).irq.flags = 0x03 := by decide +kernel

theorem test_mode_2_enable :
    (State.tick 1 (placed 0 455 .hblank 0b0100 0)).irq.flags = 0x02 := by decide +kernel

theorem test_lyc_posts_at_the_wrap :
    let t := State.tick 1 (placed 153 455 .vblank 0b1000 0)
    t.ppu.ly = 0 ∧ t.ppu.mode = .oamScan ∧ t.irq.flags = 0x02 := by decide +kernel

theorem test_lcd_off_does_not_tick :
    State.tick 1 { State.reset with ppu.lcdc := 0x11 } = { State.reset with ppu.lcdc := 0x11 } := by
  decide +kernel

/-! ## The compositor: rows of 95_test_vectors.md section 2.10 -/

/-- The grayscale machine with the given bytes in video RAM and OAM. -/
def picture (lcdc bgp : Byte) (vram oam : List (Nat × Byte)) : State :=
  let put (l : List (Nat × Byte)) : Memory := l.foldl (fun m c => Memory.write m c.1 c.2) []
  { State.reset with
    ppu.lcdc := lcdc, ppu.bgp := bgp, ppu.obp0 := 0xE4, mem.vram0 := put vram, mem.oam := put oam }

/-- A gray pixel. -/
def gray (v : Byte) : Rgb := ⟨v, v, v⟩

/-- A pixel of a line just rendered. -/
def pixel (s : State) (ly x : Nat) : Option Rgb := ((s.renderLine ly).lcd.screen.getD ly [])[x]?

theorem test_signed_tile_index :
    (picture 0x81 0xFC [(0x1800, 0x80), (0x0801, 0xFF)] []).bgPixel 0 0 = (⟨false, 2⟩, gray 0x00) := by
  decide +kernel

theorem test_scx_scroll :
    let s := { picture 0x91 0xE4 [(0x0000, 0x0F)] [] with ppu.scx := 4 }
    (s.bgPixel 0 3).2 = gray 0xC0 ∧ (s.bgPixel 0 4).2 = gray 0xFF := by decide +kernel

theorem test_scy_wrap :
    let s := { picture 0x91 0xE4 [(0x001E, 0xFF), (0x001F, 0xFF), (0x1BE0, 0x01)] [] with
      ppu.scy := 0xFF }
    (s.bgPixel 0 7).2 = gray 0x00 ∧ (s.bgPixel 0 8).2 = gray 0xFF := by decide +kernel

theorem test_window_covers_background :
    let s := { picture 0xB1 0xE4 [(0x0010, 0xFF), (0x180A, 0x01)] [] with ppu.wx := 87 }
    (s.bgPixel 0 80).2 = gray 0xFF := by decide +kernel

theorem test_window_hidden_by_wy :
    let s := { picture 0xB1 0xE4 [(0x0010, 0xFF), (0x180A, 0x01)] [] with ppu.wx := 87, ppu.wy := 1 }
    (s.bgPixel 0 79).2 = gray 0xFF ∧ (s.bgPixel 0 80).2 = gray 0xC0 := by decide +kernel

theorem test_blank_background_keeps_sprites :
    let s := picture 0x92 0xFC [(0x0000, 0xFF), (0x0001, 0xFF), (0x0010, 0x80)]
      [(0, 16), (1, 8), (2, 1)]
    pixel s 0 0 = some (gray 0xC0) ∧ pixel s 0 1 = some (gray 0xFF) := by decide +kernel

theorem test_sprite_over_background :
    let s := picture 0x93 0xFC [(0x0000, 0xFF), (0x0011, 0x80)] [(0, 16), (1, 8), (2, 1)]
    pixel s 0 0 = some (gray 0x60) ∧ pixel s 0 1 = some (gray 0x00) := by decide +kernel

theorem test_sprite_behind_background :
    pixel (picture 0x93 0xFC [(0x0000, 0xFF), (0x0011, 0x80)] [(0, 16), (1, 8), (2, 1), (3, 0x80)]) 0 0 =
      some (gray 0x00) := by decide +kernel

theorem test_sprite_x_flip :
    let s := picture 0x93 0xFC [(0x0010, 0x80)] [(0, 16), (1, 8), (2, 1), (3, 0x20)]
    pixel s 0 0 = some (gray 0xFF) ∧ pixel s 0 7 = some (gray 0xC0) := by decide +kernel

theorem test_sprite_order :
    pixel (picture 0x93 0xFC [(0x0010, 0x80), (0x0021, 0x80)]
      [(0, 16), (1, 8), (2, 1), (4, 16), (5, 8), (6, 2)]) 0 0 = some (gray 0xC0) := by decide +kernel

theorem test_tall_sprite :
    pixel (picture 0x97 0xFC [(0x0034, 0x80)] [(0, 16), (1, 8), (2, 3)]) 10 0 = some (gray 0xC0) := by
  decide +kernel

/-! ## Witnesses: the hypotheses of each statement can be met -/

/-- The step gives a next state. -/
theorem next_of_after {s : State} (h : after s (fun _ => true) = true) : ∃ t, step s = .next t := by
  unfold after at h
  cases e : step s with
  | next t => exact ⟨t, rfl⟩
  | fault r => rw [e] at h; cases h
  | refused r => rw [e] at h; cases h

/-- The step answers this refusal. -/
def stopsWith (s : State) (r : Refusal) : Bool :=
  match step s with
  | .refused q => q == r
  | _ => false

theorem refused_of_stopsWith {s : State} {r : Refusal} (h : stopsWith s r = true) :
    step s = .refused r := by
  unfold stopsWith at h
  cases e : step s with
  | next t => rw [e] at h; cases h
  | fault r => rw [e] at h; cases h
  | refused q => rw [e] at h; simp only [beq_iff_eq] at h; rw [h]

/-- The bytes the next step fetches, and the state past them. -/
theorem takes {s : State} {n : Nat} {bytes : List Byte} (h : (State.takeBytes n s).1 = bytes) :
    ∃ t, State.takeBytes n s = (bytes, t) := ⟨_, Prod.ext h rfl⟩

theorem wram_is_plain {a : Word} {k : Nat} (h : route a = .wram k) :
    (route a).storage = true ∧ (∀ n, route a ≠ .cart n) ∧ (∀ r, route a ≠ .io r) ∧
      ∀ n, route a ≠ .vram n := by
  rw [h]
  refine ⟨rfl, ?_, ?_, ?_⟩ <;> (intro n e; cases e)

theorem hram_is_plain {a : Word} {k : Nat} (h : route a = .hram k) :
    (route a).storage = true ∧ ∀ n, route a ≠ .cart n := by
  rw [h]
  refine ⟨rfl, ?_⟩
  intro n e
  cases e

theorem witness_DecodeEncode : wellFormed (.callNn 0xFFFF) = true := by decide

theorem witness_EncodeDecode : decode [0xC3, 0x00, 0x02, 0xFF] = .ok (.jpNn 0x0200, [0xFF]) := by decide

theorem witness_DecodeTotal :
    instrLength 0xC3 ≤ [(0x00 : Byte), 0x02].length + 1 ∧ instrLength 0x00 ≤ ([] : List Byte).length + 1 ∧
    [(0x00 : Byte)].length + 1 < instrLength 0xC3 ∧ ([] : List Byte).length + 1 < instrLength 0xCB := by
  decide

/-- Two decimal numbers added, or subtracted, and adjusted. -/
def adjusted (i : Instr) (x y : Nat) (a : Byte) (c : Bool) : Bool :=
  match exec i { State.reset with cpu.a := bcd x, cpu.b := bcd y } with
  | .next t =>
    match exec .daa t with
    | .next u => u.cpu.a == a && flagC u.cpu.f == c
    | _ => false
  | _ => false

theorem witness_DaaMakesDecimal :
    adjusted .addAB 45 38 0x83 false = true ∧ adjusted .addAB 99 99 0x98 true = true ∧
    adjusted .subAB 83 38 0x45 false = true ∧ adjusted .subAB 0 99 0x01 true = true := by decide +kernel

theorem witness_RotateFunctions_and_ResAndSet : (0 : Nat) < 8 ∧ (7 : Nat) < 8 := by decide

theorem witness_PopAfterPush :
    let s := { State.reset with cpu.sp := 0xC002 }
    s.memOk ∧ (∀ a ∈ wordAt (s.cpu.sp - 2), (route a).storage = true ∧ ∀ n, route a ≠ .cart n) ∧
    ∃ t, exec (iPush .af) s = .next t := by
  refine ⟨by decide, fun a h => ?_, _, rfl⟩
  simp only [wordAt, List.mem_cons, List.not_mem_nil, or_false] at h
  rcases h with rfl | rfl
  · exact ⟨(wram_is_plain (k := 0) (by decide)).1, (wram_is_plain (k := 0) (by decide)).2.1⟩
  · exact ⟨(wram_is_plain (k := 1) (by decide)).1, (wram_is_plain (k := 1) (by decide)).2.1⟩

theorem witness_PopAfterPush_highest :
    let s := { State.reset with cpu.sp := 0xFFFF }
    (∀ a ∈ wordAt (s.cpu.sp - 2), (route a).storage = true ∧ ∀ n, route a ≠ .cart n) ∧
    ∃ t, exec (iPush .bc) s = .next t := by
  refine ⟨fun a h => ?_, _, rfl⟩
  simp only [wordAt, List.mem_cons, List.not_mem_nil, or_false] at h
  rcases h with rfl | rfl
  · exact hram_is_plain (k := 125) (by decide)
  · exact hram_is_plain (k := 126) (by decide)

/-- A HALT that meets the HALT bug: the parameter set, IME = 0, an enabled request pending. -/
def buggy : State :=
  { State.reset with params.haltBug := true, irq.flags := 0x01, irq.enable := 0x01 }

theorem witness_InterruptControl :
    ¬(State.reset.params.haltBug = true ∧ State.reset.cpu.ime = false ∧
      State.reset.irq.enable &&& State.reset.irq.flags ≠ 0) ∧
    (buggy.params.haltBug = true ∧ buggy.cpu.ime = false ∧ buggy.irq.enable &&& buggy.irq.flags ≠ 0) := by
  decide

/-- The machine with STOP and the illegal bytes refused. -/
def strict (bytes : List Byte) : State :=
  { boot bytes with params.stopMode := .refuse, params.illegalMode := .refuse }

theorem witness_StopAndIllegal :
    State.reset.params.stopMode = .nop ∧ (strict []).params.stopMode = .refuse ∧
    State.reset.params.illegalMode = .nop ∧ (strict []).params.illegalMode = .refuse := by decide

theorem witness_StepRunsDecoded :
    let s := boot [0x3E, 0x05]
    s.executes ∧ s.cpu.holdPc = false ∧
    (∃ t, State.takeBytes 2 { s with cpu.halted := false } = ([0x3E, 0x05], t)) ∧
    decode [0x3E, 0x05] = .ok (.ldAN 5, []) :=
  ⟨by decide +kernel, by decide +kernel, takes (by decide +kernel), by decide⟩

theorem witness_StepRunsDecoded_double_fetch :
    let s := { boot [0x3C] with cpu.holdPc := true }
    s.executes ∧ s.cpu.holdPc = true ∧
    (∃ t, State.takeBytes 0
      { s.touch s.cpu.pc with cpu.halted := false, cpu.holdPc := false } = ([], t)) ∧
    decode (s.peek s.cpu.pc :: []) = .ok (.incA, []) :=
  ⟨by decide +kernel, by decide +kernel, takes rfl, by decide +kernel⟩

theorem witness_HaltedStepIsIdle :
    let s := { State.reset with cpu.halted := true, irq.flags := 0x10, irq.enable := 0x0F }
    s.cpu.halted = true ∧ s.irq.enable &&& s.irq.flags = 0 := by decide

theorem witness_HaltedStepIsIdle_posts :
    ({ State.reset with env.posts := [0b101] } : State).env.posts = 0b101 :: [] ∧
    State.reset.env.posts = [] := by decide

theorem witness_InterruptEntry :
    let s := { State.reset with cpu.ime := true, irq.flags := 0x10, irq.enable := 0x1F }
    s.cpu.ime = true ∧ s.irq.enable &&& s.irq.flags ≠ 0 := by decide

/-- The hypotheses of `EiTakesEffectAfterNext` for a one-byte instruction. -/
def eiCase (s : State) (op : Byte) (i : Instr) : Prop :=
  s.executes ∧ s.cpu.holdPc = false ∧
  (∃ t, State.takeBytes 1 { s with cpu.halted := false } = ([op], t)) ∧ decode [op] = .ok (i, []) ∧
  ∃ u, step s = .next u

theorem witness_EiTakesEffect_ei : eiCase (boot [0xFB]) 0xFB .ei :=
  ⟨by decide +kernel, by decide +kernel, takes (by decide +kernel), by decide,
    next_of_after (by decide +kernel)⟩

theorem witness_EiTakesEffect_di : eiCase (boot [0xF3]) 0xF3 .di :=
  ⟨by decide +kernel, by decide +kernel, takes (by decide +kernel), by decide,
    next_of_after (by decide +kernel)⟩

theorem witness_EiTakesEffect_reti : eiCase (boot [0xD9]) 0xD9 .reti :=
  ⟨by decide +kernel, by decide +kernel, takes (by decide +kernel), by decide,
    next_of_after (by decide +kernel)⟩

theorem witness_EiTakesEffect_others :
    eiCase { boot [0x3C] with cpu.imeSched := 0 } 0x3C .incA ∧
    eiCase { boot [0x3C] with cpu.imeSched := 1 } 0x3C .incA ∧
    eiCase { boot [0x3C] with cpu.imeSched := 2 } 0x3C .incA := by
  refine ⟨?_, ?_, ?_⟩ <;>
    exact ⟨by decide +kernel, by decide +kernel, takes (by decide +kernel), by decide,
      next_of_after (by decide +kernel)⟩

theorem witness_StepIsTotal :
    State.reset.runs ∧ 0 < State.reset.params.illegalCycles ∧ 4 ∣ State.reset.params.illegalCycles ∧
    (∃ t, step State.reset = .next t) ∧
    step (strict [0x10, 0x00]) = .refused .stopRefused ∧
    step (strict [0xD3]) = .refused (.illegalOpcode 0xD3) :=
  ⟨by decide, by decide, by decide, next_of_after (by decide +kernel),
    refused_of_stopsWith (by decide +kernel), refused_of_stopsWith (by decide +kernel)⟩

theorem witness_NonStoringFrame :
    storedTo .incA State.reset = [] ∧ (∃ t, exec .incA State.reset = .next t) ∧
    State.reset.drawsAt (route 0xFF44) = false ∧ State.reset.drawsAt (route 0xFFFF) = false :=
  ⟨by decide, ⟨_, rfl⟩, by decide, by decide⟩

theorem witness_StoringFrame :
    let s := { State.reset with cpu.h := 0xC0, cpu.l := 0x00 }
    (∃ t, exec .ldIndHlA s = .next t) ∧
    (∀ a ∈ storedTo .ldIndHlA s, (∀ r, route a ≠ .io r) ∧ route a ≠ route 0xC001) ∧
    s.params.cart = .flat ∧ (∀ n, route 0xC001 ≠ .cart n) ∧ s.drawsAt (route 0xC001) = false := by
  refine ⟨⟨_, rfl⟩, fun a h => ?_, by decide, (wram_is_plain (k := 1) (by decide)).2.1, by decide⟩
  rw [show storedTo .ldIndHlA { State.reset with cpu.h := 0xC0, cpu.l := 0x00 } = [0xC000] by decide] at h
  rw [List.mem_singleton.mp h]
  exact ⟨(wram_is_plain (k := 0) (by decide)).2.2.1, by decide⟩

theorem witness_ControlRegistersFrame :
    (∃ t, exec .ldBC State.reset = .next t) ∧ (formOf .ldBC).unprefixed.writesF = false ∧
    (formOf .ldBC).writesSp = false ∧ (formOf .ldBC).writesPc = false ∧ Instr.ldBC ≠ .di ∧
    Instr.ldBC ≠ .reti ∧ Instr.ldBC ≠ .ei ∧ Instr.ldBC ≠ .halt :=
  ⟨⟨_, rfl⟩, by decide, by decide, by decide, by decide, by decide, by decide, by decide⟩

theorem witness_AddressMap :
    (0x7FFF : Word).toNat < 0x8000 ∧ 0xA000 ≤ (0xA000 : Word).toNat ∧ (0xBFFF : Word).toNat < 0xC000 ∧
    0x8000 ≤ (0x8000 : Word).toNat ∧ (0x9FFF : Word).toNat < 0xA000 ∧
    0xC000 ≤ (0xC000 : Word).toNat ∧ (0xDFFF : Word).toNat < 0xE000 ∧
    0xE000 ≤ (0xE000 : Word).toNat ∧ (0xFDFF : Word).toNat < 0xFE00 ∧
    0xFE00 ≤ (0xFE00 : Word).toNat ∧ (0xFE9F : Word).toNat < 0xFEA0 ∧
    0xFEA0 ≤ (0xFEA0 : Word).toNat ∧ (0xFEFF : Word).toNat < 0xFF00 ∧
    0xFF00 ≤ (0xFF00 : Word).toNat ∧ (0xFF7F : Word).toNat < 0xFF80 ∧
    0xFF80 ≤ (0xFF80 : Word).toNat ∧ (0xFFFE : Word).toNat < 0xFFFF ∧ (0xFFFF : Word).toNat = 0xFFFF ∧
    route 0xFF00 = .io (.external 0xFF00) ∧ route 0xFF7F = .io (.external 0xFF7F) := by decide

theorem witness_BusReads :
    State.reset.drawsAt (route 0xC000) = false ∧ State.reset.drawsAt (route 0xFF00) = true ∧
    ({ State.reset with params.cart := .unknown 0, env.cartLog := [(0, 1)] } : State).drawsAt
      (route 0x0000) = true ∧
    (0xFFFF : Word) + 1 = 0 := by decide

/-- The machine with a cartridge of which nothing is known (R70, R90). -/
def withDevice : State := { State.reset with params.cart := .device 7 }

theorem witness_BusReads_device :
    withDevice.params.cart = .device 7 ∧ withDevice.drawsAt (route 0x0000) = true ∧
    route 0x7FFF = .cart 0x7FFF ∧ route 0xA000 = .cart 0xA000 ∧ route 0xBFFF = .cart 0xBFFF := by decide

theorem test_device_cartridge_sees_reads :
    (withDevice.touch 0x1234).env.draws = [⟨0x1234, 0⟩] ∧
    ((withDevice.set8 0x2000 1).touch 0x1234).env.draws = [⟨0x1234, 1⟩] := by decide +kernel

theorem test_program_in_work_ram_beside_a_device_cartridge :
    after (withDevice.withFetchWord 8 0x3C) (fun t =>
      t.cpu.a == 0x02 && t.cpu.pc == 0xC001 && t.cycles == 4) = true := by decide +kernel

theorem witness_ReadAfterWrite :
    State.reset.memOk ∧ (route 0xC000).storage = true ∧
    (∀ n, route 0xC000 = .cart n → State.reset.params.cart = .flat ∧ 0x8000 ≤ (0xC000 : Word).toNat) ∧
    (route 0xA000).storage = true ∧
    (∀ n, route 0xA000 = .cart n → State.reset.params.cart = .flat ∧ 0x8000 ≤ (0xA000 : Word).toNat) ∧
    route 0xC001 ≠ route 0xC000 ∧ State.reset.mem.wram.wf = true :=
  ⟨by decide, by decide, fun _ _ => by decide, by decide, fun _ _ => by decide, by decide, by decide⟩

theorem witness_LcdcWrite : bit 0x91 7 = true ∧ bit 0x11 7 = false := by decide

theorem witness_ColourRegisters :
    State.resetCgb.params.model = .cgb ∧ State.reset.params.model = .dmg ∧
    0x8000 ≤ (0x8000 : Word).toNat ∧ (0x9FFF : Word).toNat < 0xA000 := by decide

theorem witness_OamDmaCopies :
    ({ State.reset with params.oamDma := .stub } : State).params.oamDma = .stub ∧
    State.reset.params.oamDma = .copy ∧ State.reset.memOk ∧
    (∀ i < 160, State.reset.drawsAt
      (route (BitVec.ofNat 16 (256 * (0xC0 : Byte).toNat + i))) = false) ∧
    ∀ i < 160, State.reset.drawsAt (route (BitVec.ofNat 16 (256 * (0xFE : Byte).toNat + i))) = false := by
  refine ⟨by decide, by decide, by decide, by decide +kernel, by decide +kernel⟩

/-- The colour machine with an HDMA descriptor. -/
def armed (src dst : Word) (active : Bool) (remaining : Byte) : State :=
  { State.resetCgb with
    hdma := { src := src, dst := dst, active := active, mode := .hdma, remaining := remaining } }

theorem witness_HdmaRegisters :
    (armed 0xC000 0x8000 true 3).params.model = .cgb ∧ (armed 0xC000 0x8000 true 3).hdma.active = true ∧
    bit 0x7F 7 = false ∧ bit 0x80 7 = true := by decide

theorem witness_GeneralDmaRunsAtOnce :
    let s := armed 0xC000 0x9FF0 false 0
    s.params.model = .cgb ∧ s.hdmaOk ∧ 0x8000 ≤ s.hdma.dst.toNat ∧ bit 0x7F 7 = false ∧
      s.hdma.active = false := by decide

theorem witness_HdmaBlockCopies :
    let s := armed 0xC000 0x9FF0 true 1
    s.memOk ∧ s.hdmaOk ∧ 0x8000 ≤ s.hdma.dst.toNat ∧ s.params.hdmaEngine = .copy ∧
    (∀ i < 16, s.drawsAt (route (s.hdma.src + BitVec.ofNat 16 i)) = false ∧
      ∀ n, route (s.hdma.src + BitVec.ofNat 16 i) ≠ .vram n) ∧
    (∀ i < 16, route 0x8000 ≠ route (s.hdma.dst + BitVec.ofNat 16 i)) ∧ (0x8000 : Word) ≠ 0xFF55 ∧
    s.drawsAt (route 0x8000) = false ∧
    ({ s with params.hdmaEngine := .registersOnly } : State).params.hdmaEngine = .registersOnly := by
  have h : ∀ i < 16, route ((0xC000 : Word) + BitVec.ofNat 16 i) = .wram i := by decide +kernel
  refine ⟨by decide, by decide, by decide, by decide, fun i hi => ?_, by decide +kernel, by decide,
    by decide, by decide⟩
  refine ⟨?_, (wram_is_plain (h i hi)).2.2.2⟩
  show State.drawsAt _ (route ((0xC000 : Word) + BitVec.ofNat 16 i)) = false
  rw [h i hi]
  rfl

theorem witness_DotStep :
    (placed 153 455 .vblank 0 0).ppu.dots < 456 ∧ (placed 153 455 .vblank 0 0).ppu.ly.toNat < 154 := by
  decide

theorem witness_TickFrame :
    bit ({ State.reset with ppu.lcdc := 0x11 } : State).ppu.lcdc 7 = false ∧
    State.reset.hdmaOk ∧ State.reset.hdma.active = false ∧
    (armed 0xC000 0x8000 true 1).hdmaOk ∧ 0x8000 ≤ (armed 0xC000 0x8000 true 1).hdma.dst.toNat := by decide

theorem witness_FrameFromCleanStart :
    bit State.reset.ppu.lcdc 7 = true ∧ State.reset.ppu.dots = 0 ∧ State.reset.ppu.ly = 0 ∧
    State.reset.ppu.mode = .hblank ∧ (1 : Nat) ≤ 1 ∧ (65664 : Nat) ≤ 65664 ∧ (65663 : Nat) < 65664 := by
  decide

theorem witness_RenderedLine : State.reset.screenOk ∧ (143 : Nat) < 144 ∧ (159 : Nat) < 160 := by
  decide +kernel

theorem witness_WorkedBackground_unsigned :
    let s := picture 0x91 0xFC [(0x0000, 0xFF)] []
    s.screenOk ∧ s.params.model = .dmg ∧ s.params.gray = ⟨0xFF, 0xC0, 0x60, 0x00⟩ ∧ s.ppu.scx = 0 ∧
    s.ppu.scy = 0 ∧ s.ppu.bgp = 0xFC ∧ Memory.read s.mem.vram0 0x1800 = 0x00 ∧ s.ppu.lcdc = 0x91 ∧
    Memory.read s.mem.vram0 0x0000 = 0xFF ∧ Memory.read s.mem.vram0 0x0001 = 0x00 := by decide +kernel

theorem witness_WorkedBackground_signed :
    let s := picture 0x81 0xFC [(0x1000, 0xFF)] []
    s.screenOk ∧ s.params.model = .dmg ∧ s.params.gray = ⟨0xFF, 0xC0, 0x60, 0x00⟩ ∧ s.ppu.scx = 0 ∧
    s.ppu.scy = 0 ∧ s.ppu.bgp = 0xFC ∧ Memory.read s.mem.vram0 0x1800 = 0x00 ∧ s.ppu.lcdc = 0x81 ∧
    Memory.read s.mem.vram0 0x1000 = 0xFF ∧ Memory.read s.mem.vram0 0x1001 = 0x00 := by decide +kernel

/-- Registers that meet the invariants, other than the default ones. -/
def otherRegs : InitRegs :=
  { InitRegs.default .cgb with
    ppu := { Ppu.reset with ly := 153, dots := 455, mode := .vblank, lcdc := 0x00 } }

theorem witness_ResetIsGood :
    otherRegs.cpu.f &&& 0x0F = 0 ∧ otherRegs.ppu.dots < 456 ∧ otherRegs.ppu.ly.toNat < 154 ∧
    otherRegs.ppu.mode = modeOf otherRegs.ppu.ly.toNat otherRegs.ppu.dots ∧ Mems.empty.ok ∧
    otherRegs.hdma.ok := by decide

theorem witness_StepKeepsGood : (boot [0x3C]).Good ∧ ∃ t, step (boot [0x3C]) = .next t :=
  ⟨⟨by decide +kernel, by decide +kernel, by decide +kernel, by decide +kernel, by decide +kernel⟩,
    next_of_after (by decide +kernel)⟩

theorem witness_ScreenIsNotObservable :
    (∃ t, step (boot [0x3C]) = .next t) ∧ step (strict [0x10, 0x00]) = .refused .stopRefused :=
  ⟨next_of_after (by decide +kernel), refused_of_stopsWith (by decide +kernel)⟩

end Sys2Proof.Tests
end

section
/-! Power-on and reset (00_scope.md R11, R72): what each register holds, and that the invariants hold. -/

namespace Sys2Proof.Machine

/-- Forcing the LCD on (R72) sets bit 7. -/
theorem bit_or_0x80_seven (v : Byte) : bit (v ||| 0x80) 7 = true := by
  simp [bit]

/-- Forcing the LCD on (R72) keeps every other bit of LCDC. -/
theorem bit_or_0x80_of_lt_seven (v : Byte) {i : Nat} (hi : i < 7) : bit (v ||| 0x80) i = bit v i := by
  have h80 : ∀ j < 7, (0x80 : Byte).getLsbD j = false := by decide
  rw [bit, BitVec.getLsbD_or, h80 i hi, Bool.or_false, bit]

theorem pixel_of_mem_blankScreen {v : Byte} {line : List Rgb} {px : Rgb}
    (hline : line ∈ Lcd.blankScreen v) (hpx : px ∈ line) : px = ⟨v, v, v⟩ := by
  obtain rfl := List.eq_of_mem_replicate hline
  exact List.eq_of_mem_replicate hpx

/-- The PPU of R72 has the LCD on already, so power-on leaves it as given. -/
theorem ppu_reset_lcdOn : { Ppu.reset with lcdc := Ppu.reset.lcdc ||| 0x80 } = Ppu.reset := rfl

/-- The PPU starts inside the frame (R426). -/
theorem ppu_reset_inFrame : Ppu.reset.dots < 456 ∧ Ppu.reset.ly.toNat < 154 := by decide

theorem hdma_reset_ok : Hdma.reset.ok := by decide

theorem mems_empty_ok : Mems.empty.ok := by decide

/-- The control state of R72 does not depend on the model; PC and SP are those of power-on. -/
theorem cpu_reset_control (m : Model) :
    (Cpu.reset m).pc = 0x0100 ∧ (Cpu.reset m).sp = 0xFFFE ∧ (Cpu.reset m).ime = false ∧
    (Cpu.reset m).imeSched = 0 ∧ (Cpu.reset m).halted = false := by
  cases m <;> exact ⟨rfl, rfl, rfl, rfl, rfl⟩

theorem cpu_reset_flags (m : Model) : (Cpu.reset m).f &&& 0x0F = 0 := by
  cases m <;> rfl

theorem cpu_reset_powerOn (m : Model) :
    { Cpu.reset m with pc := 0x0100, sp := 0xFFFE } = Cpu.reset m := by
  cases m <;> rfl

/-- Both reset states hold the registers of R72, each with its own model's CPU, on a white screen. -/
theorem fields_of_mem_resets {s : State} (hs : s ∈ [State.reset, State.resetCgb]) :
    s.cpu = Cpu.reset s.params.model ∧ s.irq = ⟨0, 0⟩ ∧ s.ppu = Ppu.reset ∧ s.hdma = Hdma.reset ∧
    s.lcd.screen = Lcd.blankScreen 0xFF := by
  obtain rfl | rfl : s = State.reset ∨ s = State.resetCgb := by simpa using hs
  · exact ⟨cpu_reset_powerOn .dmg, rfl, ppu_reset_lcdOn, rfl, rfl⟩
  · exact ⟨cpu_reset_powerOn .cgb, rfl, ppu_reset_lcdOn, rfl, rfl⟩

/-- Power-on from registers and memories that meet the invariants meets them: it changes PC, SP and
LCDC bit 7 only, and clears the screen. -/
theorem powerOn_good (p : Params) (regs : InitRegs) (contents : Mems) (posts : List (BitVec 3))
    (hflags : regs.cpu.f &&& 0x0F = 0) (hdots : regs.ppu.dots < 456) (hly : regs.ppu.ly.toNat < 154)
    (hmode : regs.ppu.mode = modeOf regs.ppu.ly.toNat regs.ppu.dots ∨
      regs.ppu.dots = 0 ∧ regs.ppu.ly = 0 ∧ regs.ppu.mode = .hblank)
    (hmem : contents.ok) (hhdma : regs.hdma.ok) : (State.powerOn p regs contents posts).Good where
  flags := hflags
  ppu := ⟨hdots, hly, hmode.imp_left fun h => ⟨h, bit_or_0x80_seven _⟩⟩
  memory := hmem
  screen :=
    have ⟨hlines, hcolumns⟩ := blankScreen_ok p.gray.g0
    ⟨hlines, hcolumns, List.length_replicate⟩
  hdma := hhdma

/-- Power-on with the default registers of R72 and nothing in memory meets the invariants: it is the
clean start of R412. -/
theorem powerOn_default_good (p : Params) (m : Model) (posts : List (BitVec 3)) :
    (State.powerOn p (InitRegs.default m) Mems.empty posts).Good :=
  have ⟨hdots, hly⟩ := ppu_reset_inFrame
  powerOn_good p (InitRegs.default m) Mems.empty posts (cpu_reset_flags m) hdots hly
    (.inr ⟨rfl, rfl, rfl⟩) mems_empty_ok hdma_reset_ok

/-- Settles O57: power-on field by field, and the two reset states through R72's register tables. -/
theorem resetValues : Obligations.ResetValues := by
  refine ⟨fun p regs contents posts => ?_, fun s hs => ?_, rfl, rfl, rfl, rfl, rfl, rfl⟩
  · refine ⟨rfl, rfl, rfl, rfl, rfl, rfl, rfl, bit_or_0x80_seven _, fun i hi => ?_,
      fun line hline px hpx => pixel_of_mem_blankScreen hline hpx⟩
    exact bit_or_0x80_of_lt_seven _ hi
  · obtain ⟨hcpu, hirq, hppu, hhdma, hscreen⟩ := fields_of_mem_resets hs
    obtain ⟨hpc, hsp, hime, hsched, hhalted⟩ := cpu_reset_control s.params.model
    have hpixels : ∀ line ∈ s.lcd.screen, ∀ px ∈ line, px = ⟨0xFF, 0xFF, 0xFF⟩ := by
      rw [hscreen]
      exact fun line hline px hpx => pixel_of_mem_blankScreen hline hpx
    simpa [hcpu, hpc, hsp, hime, hsched, hhalted, hirq, hppu, Ppu.reset, hhdma, Hdma.reset,
      Hdma.read5, mask] using hpixels

/-- Settles O58: power-on keeps the bounds it is given, and R72's values meet them for both models. -/
theorem resetIsGood : Obligations.ResetIsGood :=
  ⟨powerOn_default_good _ .dmg [], powerOn_default_good _ .cgb [], powerOn_good⟩

end Sys2Proof.Machine
end

section
/-! A step keeps the invariants (Safety.lean): what a CPU step can do, then what the driver adds. -/

namespace Sys2Proof.Machine

/-- The invariants are that of F and those that do not speak of the CPU. -/
theorem good_iff (s : State) : s.Good ↔ s.flagsOk ∧ s.BusGood :=
  ⟨fun g => ⟨g.flags, g.ppu, g.memory, g.screen, g.hdma⟩,
    fun ⟨hflags, g⟩ => ⟨hflags, g.ppu, g.memory, g.screen, g.hdma⟩⟩

/-- What a CPU step can do (R371): stay halted, enter an interrupt, or run the instruction that the
fetch left, on a state that differs by that fetch and the wake-up only. -/
theorem cpuStep_cases {s t : State} (h : s.cpuStep = .next t) :
    (s.cpu.halted = true ∧ s.pend = 0 ∧ t = { s with cycles := 4 }) ∨
    (s.cpu.ime = true ∧ s.pend ≠ 0 ∧
      t = { s with cpu.halted := false }.enterInterrupt (lowestSet s.pend)) ∨
    s.executes ∧ ∃ i u v pc, Quiet s u ∧
      u.cpu = { s.cpu with halted := false, holdPc := false, pc := pc } ∧
      exec i u = .next v ∧ t = v.countDown := by
  unfold State.cpuStep at h
  split at h
  · rename_i idle
    obtain ⟨hhalted, hpend⟩ := by simpa using idle
    cases h
    exact .inl ⟨hhalted, hpend, rfl⟩
  rename_i awake
  dsimp only at h
  split at h
  · rename_i due
    obtain ⟨hime, hpend⟩ := by simpa using due
    cases h
    exact .inr (.inl ⟨hime, hpend, rfl⟩)
  rename_i notDue
  obtain ⟨i, u, pc, hquiet, hcpu, hexec⟩ := execute_cases { s with cpu.halted := false }
  rw [hexec] at h
  have hwoken : Quiet s { s with cpu.halted := false } := rfl
  refine .inr (.inr ⟨⟨by simpa using awake, by simpa using notDue⟩, i, u, ?_⟩)
  cases hv : exec i u with
  | next v =>
    rw [hv] at h
    cases h
    exact ⟨v, pc, hwoken.trans hquiet, hcpu, rfl, rfl⟩
  | fault r => nomatch r
  | refused r =>
    rw [hv] at h
    cases h

/-- An instruction keeps the invariants and the parameters. -/
theorem exec_good {i : Instr} {s t : State} (g : s.Good) (h : exec i s = .next t) :
    t.Good ∧ t.params = s.params := by
  obtain ⟨hflags, hbus⟩ := (good_iff s).mp g
  have heffect := exec_effect h
  rw [exec_eq_unprefixed] at h
  have hflags' := runForm_flagsOk _ s t (unprefixed_ne_prefixed _) h hflags
  exact ⟨(good_iff t).mpr ⟨hflags', heffect.busGood hbus⟩, heffect.params⟩

/-- An interrupt entry keeps the invariants and the parameters: it clears a bit of IF, pushes PC with
two bus stores and leaves F (R507). -/
theorem enterInterrupt_good (s : State) (k : Nat) (g : s.Good) :
    (s.enterInterrupt k).Good ∧ (s.enterInterrupt k).params = s.params := by
  obtain ⟨hflags, hbus⟩ := (good_iff s).mp g
  have hacked : ({ s with irq.flags := s.irq.flags &&& ~~~((1 : BitVec 5) <<< k) } : State).BusGood :=
    ⟨hbus.ppu, hbus.memory, hbus.screen, hbus.hdma⟩
  have hpushed := set8_busGood _ (s.cpu.sp - 2 + 1) (hi s.cpu.pc)
    (set8_busGood _ (s.cpu.sp - 2) (lo s.cpu.pc) hacked)
  rw [State.enterInterrupt_eq]
  exact ⟨(good_iff _).mpr ⟨hflags, Quiet.busGood rfl hpushed⟩, by simp⟩

/-- A change of the CPU that keeps F keeps the invariants. -/
theorem Quiet.good {s t : State} (h : Quiet s t) (hf : t.cpu.f = s.cpu.f) (g : s.Good) : t.Good := by
  obtain ⟨hflags, hbus⟩ := (good_iff s).mp g
  exact (good_iff t).mpr ⟨by rw [State.flagsOk, hf]; exact hflags, h.busGood hbus⟩

theorem countDown_f (s : State) : s.countDown.cpu.f = s.cpu.f := by rw [countDown_eq]

theorem cpuStep_good {s t : State} (g : s.Good) (h : s.cpuStep = .next t) :
    t.Good ∧ t.params = s.params := by
  obtain ⟨-, -, rfl⟩ | ⟨-, -, rfl⟩ | ⟨-, i, u, v, pc, hfetch, hcpu, hexec, rfl⟩ := cpuStep_cases h
  · exact ⟨Quiet.good rfl rfl g, rfl⟩
  · exact enterInterrupt_good { s with cpu.halted := false } _ (Quiet.good rfl rfl g)
  · obtain ⟨hgood, hparams⟩ := exec_good (hfetch.good (by rw [hcpu]) g) hexec
    exact ⟨(countDown_quiet v).good (countDown_f v) hgood,
      (countDown_quiet v).params.trans (hparams.trans hfetch.params)⟩

/-- The driver's tick and posts keep the invariants and the parameters (R390). -/
theorem drive_good (s : State) (g : s.Good) : s.drive.Good ∧ s.drive.params = s.params := by
  obtain ⟨hflags, hbus⟩ := (good_iff s).mp g
  have htick := tick_busGood s.cycles s hbus
  rw [State.drive, State.takePosts_eq]
  refine ⟨(good_iff _).mpr ⟨?_, htick.ppu, htick.memory, htick.screen, htick.hdma⟩,
    State.tick_params _ _⟩
  rw [State.flagsOk, State.tick_cpu]
  exact hflags

/-- A step is a CPU step that answers, and then the driver. -/
theorem step_cases {s t : State} (h : step s = .next t) : ∃ u, s.cpuStep = .next u ∧ t = u.drive := by
  unfold step State.turn at h
  cases hu : s.cpuStep with
  | next u =>
    rw [hu] at h
    cases h
    exact ⟨u, rfl, rfl⟩
  | fault r => nomatch r
  | refused r =>
    rw [hu] at h
    cases h

/-- Settles O59: the CPU step keeps the invariants and the parameters, and so does the driver. -/
theorem stepKeepsGood : Obligations.StepKeepsGood := by
  intro s t g h
  obtain ⟨u, hcpuStep, rfl⟩ := step_cases h
  obtain ⟨hgood, hparams⟩ := cpuStep_good g hcpuStep
  obtain ⟨hdrive, hkept⟩ := drive_good u hgood
  exact ⟨hdrive, hkept.trans hparams⟩

end Sys2Proof.Machine
end

section
/-! The screen is write-only (R61, R62): each operation of a step, from two states that differ in the
pixel buffer and the priority record only, reads the same values and ends in two such states. -/

namespace Sys2Proof.Machine

/-- `t` differs from `s` in the pixel buffer and the priority record only. -/
def SameButLcd (s t : State) : Prop := ∃ l, t = { s with lcd := l }

/-- Two answers agree: next states that differ in the screen only, or the same refusal. -/
inductive AnswersAgree : Result → Result → Prop
  | next {s t : State} (h : SameButLcd s t) : AnswersAgree (.next s) (.next t)
  | refused (r : Refusal) : AnswersAgree (.refused r) (.refused r)

section
variable {s t : State}

/-- An operation that carries the screen along unread. -/
theorem SameButLcd.map (h : SameButLcd s t) (op : State → State)
    (carries : ∀ s l, op { s with lcd := l } = { op s with lcd := l }) : SameButLcd (op s) (op t) := by
  obtain ⟨l, rfl⟩ := h
  exact ⟨l, carries s l⟩

/-! Reads and register writes. -/

theorem SameButLcd.touch (h : SameButLcd s t) (a : Word) : SameButLcd (s.touch a) (t.touch a) :=
  h.map (·.touch a) fun s l => by
    have hdraws : State.drawsAt { s with lcd := l } (route a) = s.drawsAt (route a) := rfl
    simp only [State.touch, hdraws]
    split <;> rfl

theorem SameButLcd.setReg (h : SameButLcd s t) (r : Reg8) (v : Byte) :
    SameButLcd (s.setReg r v) (t.setReg r v) :=
  h.map (·.setReg r v) fun _ _ => by cases r <;> rfl

theorem SameButLcd.setPair (h : SameButLcd s t) (p : Pair) (v : Word) :
    SameButLcd (s.setPair p v) (t.setPair p v) :=
  h.map (·.setPair p v) fun _ _ => by cases p <;> rfl

theorem SameButLcd.setStackPair (h : SameButLcd s t) (p : StackPair) (v : Word) :
    SameButLcd (s.setStackPair p v) (t.setStackPair p v) :=
  h.map (·.setStackPair p v) fun _ _ => by cases p <;> rfl

theorem SameButLcd.alu (h : SameButLcd s t) (op : AluOp) (v : Byte) :
    SameButLcd (s.alu op v) (t.alu op v) :=
  h.map (·.alu op v) fun _ _ => by cases op <;> rfl

theorem SameButLcd.setF (h : SameButLcd s t) (v : Byte) : SameButLcd (s.setF v) (t.setF v) :=
  h.map (·.setF v) fun _ _ => rfl

theorem SameButLcd.setPc (h : SameButLcd s t) (v : Word) : SameButLcd (s.setPc v) (t.setPc v) :=
  h.map (·.setPc v) fun _ _ => rfl

theorem SameButLcd.cpu (h : SameButLcd s t) : t.cpu = s.cpu := by
  obtain ⟨l, rfl⟩ := h
  rfl

theorem SameButLcd.peek (h : SameButLcd s t) (a : Word) : t.peek a = s.peek a := by
  obtain ⟨l, rfl⟩ := h
  rfl

/-! Stores. -/

theorem SameButLcd.writeMem (h : SameButLcd s t) (v : Byte) (r : Region) :
    SameButLcd (s.writeMem v r) (t.writeMem v r) :=
  h.map (·.writeMem v r) fun s l => by
    cases r with
    | cart n =>
      simp only [State.writeMem, State.writeCart]
      repeat' split
      all_goals rfl
    | vram i =>
      have hbank : State.bank1 { s with lcd := l } = s.bank1 := rfl
      simp only [State.writeMem, State.writeVram, hbank]
      split <;> rfl
    | _ => rfl

theorem SameButLcd.oamDmaFrom (h : SameButLcd s t) (page : Byte) (n i : Nat) :
    SameButLcd (State.oamDmaFrom page n i s) (State.oamDmaFrom page n i t) := by
  induction n generalizing i s t with
  | zero => exact h
  | succ n ih =>
    refine ih ?_ (i + 1)
    obtain ⟨l, hl⟩ := h.touch (word page (BitVec.ofNat 8 i))
    simp only [State.oamDmaByte, State.get8, h.peek, hl]
    exact ⟨l, rfl⟩

theorem SameButLcd.hdmaBytes (h : SameButLcd s t) (n i : Nat) :
    SameButLcd (State.hdmaBytes n i s) (State.hdmaBytes n i t) := by
  induction n generalizing i s t with
  | zero => exact h
  | succ n ih =>
    refine ih ?_ (i + 1)
    have hhdma : t.hdma = s.hdma := by obtain ⟨l, rfl⟩ := h; rfl
    simp only [State.hdmaByte, State.get8, h.peek, State.touch_hdma, hhdma]
    exact (h.touch _).writeMem _ _

theorem SameButLcd.hdmaBlock (h : SameButLcd s t) :
    SameButLcd s.hdmaBlock t.hdmaBlock := by
  have hbytes := h.hdmaBytes 16 0
  have hparams : t.params = s.params := by obtain ⟨l, rfl⟩ := h; rfl
  unfold State.hdmaBlock
  rw [hparams]
  cases s.params.hdmaEngine with
  | copy =>
    obtain ⟨l, hl⟩ := hbytes
    exact ⟨l, by simp only [hl]⟩
  | registersOnly =>
    obtain ⟨l, rfl⟩ := h
    exact ⟨l, rfl⟩

theorem SameButLcd.hdmaBlocks (h : SameButLcd s t) (n : Nat) :
    SameButLcd (State.hdmaBlocks n s) (State.hdmaBlocks n t) := by
  induction n generalizing s t with
  | zero => exact h
  | succ n ih => exact ih h.hdmaBlock

/-- The LCD-off reset clears the pixel buffer, whatever it held. -/
theorem SameButLcd.writeLcdc (h : SameButLcd s t) (v : Byte) :
    SameButLcd (s.writeLcdc v) (t.writeLcdc v) := by
  obtain ⟨l, rfl⟩ := h
  unfold State.writeLcdc
  split
  · exact ⟨l, rfl⟩
  · exact ⟨{ l with screen := Lcd.blankScreen s.params.gray.g0 }, rfl⟩

theorem SameButLcd.writeDma (h : SameButLcd s t) (v : Byte) :
    SameButLcd (s.writeDma v) (t.writeDma v) := by
  obtain ⟨l, rfl⟩ := h
  have hset : SameButLcd { s with ppu.dma := v } { s with ppu.dma := v, lcd := l } := ⟨l, rfl⟩
  simp only [State.writeDma]
  split
  · exact hset.oamDmaFrom v 160 0
  · exact hset

theorem SameButLcd.writeHdma5 (h : SameButLcd s t) (v : Byte) :
    SameButLcd (s.writeHdma5 v) (t.writeHdma5 v) := by
  obtain ⟨l, rfl⟩ := h
  simp only [State.writeHdma5]
  split
  · exact ⟨l, rfl⟩
  · split
    · exact ⟨l, rfl⟩
    · exact .hdmaBlocks ⟨l, rfl⟩ _

theorem SameButLcd.ifCgb {s' t' : State} (h : SameButLcd s t) (h' : SameButLcd s' t') :
    SameButLcd (s.ifCgb s') (t.ifCgb t') := by
  obtain ⟨l, rfl⟩ := h
  simp only [State.ifCgb]
  split
  · exact h'
  · exact ⟨l, rfl⟩

theorem SameButLcd.writeIo (h : SameButLcd s t) (v : Byte) (r : IoReg) :
    SameButLcd (s.writeIo v r) (t.writeIo v r) := by
  cases r with
  | lcdc => exact h.writeLcdc v
  | dma => exact h.writeDma v
  | hdma5 => exact h.ifCgb (h.writeHdma5 v)
  | vbk | hdma1 | hdma2 | hdma3 | hdma4 | bcps | bcpd | ocps | ocpd =>
    refine h.ifCgb ?_
    obtain ⟨l, rfl⟩ := h
    exact ⟨l, rfl⟩
  | _ =>
    obtain ⟨l, rfl⟩ := h
    exact ⟨l, rfl⟩

theorem SameButLcd.set8 (h : SameButLcd s t) (a : Word) (v : Byte) :
    SameButLcd (s.set8 a v) (t.set8 a v) := by
  by_cases hio : ∃ r, route a = .io r
  · obtain ⟨r, hr⟩ := hio
    rw [State.set8, State.set8, hr]
    exact h.writeIo v r
  · have hmem : ∀ r, route a ≠ .io r := fun r hr => hio ⟨r, hr⟩
    rw [State.set8_of_not_io s a v hmem, State.set8_of_not_io t a v hmem]
    exact h.writeMem v _

theorem SameButLcd.set16 (h : SameButLcd s t) (a v : Word) :
    SameButLcd (s.set16 a v) (t.set16 a v) := (h.set8 _ _).set8 _ _

theorem SameButLcd.push16 (h : SameButLcd s t) (v : Word) :
    SameButLcd (s.push16 v) (t.push16 v) := by
  obtain ⟨l, rfl⟩ := h
  exact .set16 ⟨l, rfl⟩ _ _

theorem SameButLcd.pop16 (h : SameButLcd s t) :
    t.pop16.1 = s.pop16.1 ∧ SameButLcd s.pop16.2 t.pop16.2 := by
  have hlow := h.touch s.cpu.sp
  obtain ⟨l, hl⟩ := hlow.touch (s.cpu.sp + 1)
  simp only [State.pop16_eq, h.cpu, h.peek, hlow.peek, hl]
  exact ⟨trivial, l, rfl⟩

theorem SameButLcd.getOperand (h : SameButLcd s t) (z : Operand) :
    (t.getOperand z).1 = (s.getOperand z).1 ∧
      SameButLcd (s.getOperand z).2 (t.getOperand z).2 := by
  obtain ⟨l, rfl⟩ := h
  cases z with
  | reg r => exact ⟨rfl, l, rfl⟩
  | indHl => exact ⟨rfl, .touch ⟨l, rfl⟩ _⟩

theorem SameButLcd.putOperand (h : SameButLcd s t) (z : Operand) (v : Byte) :
    SameButLcd (s.putOperand z v) (t.putOperand z v) := by
  cases z with
  | reg r => exact h.setReg r v
  | indHl =>
    simp only [State.putOperand, State.hl, h.cpu]
    exact h.set8 _ _

/-! The meanings. -/

theorem AnswersAgree.finish (h : SameButLcd s t) (c : Nat) :
    AnswersAgree (finish c s) (finish c t) := by
  obtain ⟨l, rfl⟩ := h
  exact .next ⟨l, rfl⟩

theorem AnswersAgree.ite {p : Prop} [Decidable p] {r r' q q' : Result} (hr : AnswersAgree r r')
    (hq : AnswersAgree q q') : AnswersAgree (if p then r else q) (if p then r' else q') := by
  split
  · exact hr
  · exact hq

/-- Each form reads the CPU, the bus and the parameters, and never the screen. -/
theorem runForm_agree (f : Form) (h : SameButLcd s t) (np : ∀ op2, f ≠ .prefixed op2) :
    AnswersAgree (runForm f s) (runForm f t) := by
  obtain ⟨l, rfl⟩ := id h
  cases f with
  | prefixed op2 => exact absurd rfl (np op2)
  | nop | di | ei => exact .finish ⟨l, rfl⟩ _
  | illegal op =>
    simp only [runForm, illegal]
    cases s.params.illegalMode with
    | nop => exact .finish h _
    | refuse => exact .refused _
  | stop =>
    simp only [runForm, stop]
    cases s.params.stopMode with
    | nop => exact .finish h _
    | refuse => exact .refused _
  | halt => exact .ite (.finish ⟨l, rfl⟩ _) (.finish ⟨l, rfl⟩ _)
  | ldRegReg | ldRegImm => exact .finish (h.setReg _ _) _
  | ldRegMem | loadA => exact .finish ((h.touch _).setReg _ _) _
  | loadAStep => exact .finish (((h.touch _).setReg _ _).setPair .hl _) _
  | ldMemReg | ldMemImm | storeA => exact .finish (h.set8 _ _) _
  | storeAStep => exact .finish ((h.set8 _ _).setPair .hl _) _
  | ldPairImm | incPair | decPair => exact .finish (h.setPair _ _) _
  | storeSp => exact .finish (h.set16 _ _) _
  | ldSpHl => exact .finish (h.setPair .sp _) _
  | ldHlSp | addHl => exact .finish ((h.setPair .hl _).setF _) _
  | addSp => exact .finish ((h.setPair .sp _).setF _) _
  | aluReg | aluImm => exact .finish (h.alu _ _) _
  | aluMem => exact .finish ((h.touch _).alu _ _) _
  | incReg | decReg | daa | cpl | rotA => exact .finish ((h.setReg _ _).setF _) _
  | incMem | decMem => exact .finish (((h.touch _).set8 _ _).setF _) _
  | scf | ccf => exact .finish (h.setF _) _
  | cbRot k z =>
    obtain ⟨hvalue, hread⟩ := h.getOperand z
    simp only [runForm, cbRotate, hvalue]
    exact .finish ((hread.putOperand _ _).setF _) _
  | cbBit b z =>
    obtain ⟨hvalue, hread⟩ := h.getOperand z
    simp only [runForm, cbTest, hvalue]
    exact .finish (hread.setF _) _
  | cbRes b z =>
    obtain ⟨hvalue, hread⟩ := h.getOperand z
    simp only [runForm, cbReset, hvalue]
    exact .finish (hread.putOperand _ _) _
  | cbSet b z =>
    obtain ⟨hvalue, hread⟩ := h.getOperand z
    simp only [runForm, Machine.cbSet, hvalue]
    exact .finish (hread.putOperand _ _) _
  | jp | jpHl | jr => exact .finish (h.setPc _) _
  | jpIf | jrIf => exact .ite (.finish (h.setPc _) _) (.finish h _)
  | call | rst => exact .finish ((h.push16 _).setPc _) _
  | callIf => exact .ite (.finish ((h.push16 _).setPc _) _) (.finish h _)
  | push => exact .finish (h.push16 _) _
  | ret =>
    obtain ⟨hvalue, hread⟩ := h.pop16
    simp only [runForm, Machine.ret, hvalue]
    exact .finish (hread.setPc _) _
  | retIf cc =>
    obtain ⟨hvalue, hread⟩ := h.pop16
    simp only [runForm, Machine.retIf, hvalue]
    exact .ite (.finish (hread.setPc _) _) (.finish h _)
  | reti =>
    obtain ⟨hvalue, l', hread⟩ := h.pop16
    simp only [runForm, retFromInterrupt, State.returnFromInterrupt, hvalue, hread]
    exact .finish ⟨l', rfl⟩ _
  | pop p =>
    obtain ⟨hvalue, hread⟩ := h.pop16
    simp only [runForm, popPair, hvalue]
    exact .finish (hread.setStackPair _ _) _

theorem exec_agree (i : Instr) (h : SameButLcd s t) :
    AnswersAgree (exec i s) (exec i t) := by
  rw [exec_eq_unprefixed, exec_eq_unprefixed]
  exact runForm_agree _ h (unprefixed_ne_prefixed _)

/-! The CPU step. -/

theorem SameButLcd.fetch8 (h : SameButLcd s t) :
    t.fetch8.1 = s.fetch8.1 ∧ SameButLcd s.fetch8.2 t.fetch8.2 := by
  obtain ⟨l, rfl⟩ := id h
  exact ⟨rfl, (h.touch _).setPc _⟩

theorem SameButLcd.fetch16 (h : SameButLcd s t) :
    t.fetch16.1 = s.fetch16.1 ∧ SameButLcd s.fetch16.2 t.fetch16.2 := by
  obtain ⟨hlow, hstate⟩ := h.fetch8
  obtain ⟨hhigh, hstate'⟩ := hstate.fetch8
  exact ⟨congrArg₂ word hhigh hlow, hstate'⟩

theorem SameButLcd.fetchOpcode (h : SameButLcd s t) :
    t.fetchOpcode.1 = s.fetchOpcode.1 ∧ SameButLcd s.fetchOpcode.2 t.fetchOpcode.2 := by
  unfold State.fetchOpcode
  rw [h.cpu]
  split
  · obtain ⟨l, hl⟩ := h.touch s.cpu.pc
    exact ⟨h.peek _, l, by simp only [State.get8, hl]⟩
  · exact h.fetch8

theorem execute_agree (h : SameButLcd s t) : AnswersAgree s.execute t.execute := by
  obtain ⟨hop, hfetched⟩ := h.fetchOpcode
  unfold State.execute
  simp only [hop]
  cases decodeOp s.fetchOpcode.1 with
  | op i => exact exec_agree i hfetched
  | imm8 f =>
    obtain ⟨hvalue, hstate⟩ := hfetched.fetch8
    simp only [hvalue]
    exact exec_agree _ hstate
  | imm16 f =>
    obtain ⟨hvalue, hstate⟩ := hfetched.fetch16
    simp only [hvalue]
    exact exec_agree _ hstate
  | cbPrefix =>
    obtain ⟨hvalue, hstate⟩ := hfetched.fetch8
    simp only [hvalue]
    exact exec_agree _ hstate

theorem SameButLcd.countDown (h : SameButLcd s t) :
    SameButLcd s.countDown t.countDown :=
  h.map (·.countDown) fun _ _ => by simp only [countDown_eq]

theorem SameButLcd.enterInterrupt (h : SameButLcd s t) (k : Nat) :
    SameButLcd (s.enterInterrupt k) (t.enterInterrupt k) := by
  obtain ⟨l, rfl⟩ := h
  have hacked : SameButLcd { s with irq.flags := s.irq.flags &&& ~~~((1 : BitVec 5) <<< k) }
      { s with irq.flags := s.irq.flags &&& ~~~((1 : BitVec 5) <<< k), lcd := l } := ⟨l, rfl⟩
  obtain ⟨l', hl⟩ := (hacked.set8 (s.cpu.sp - 2) (lo s.cpu.pc)).set8 (s.cpu.sp - 2 + 1) (hi s.cpu.pc)
  simp only [State.enterInterrupt_eq, hl]
  exact ⟨l', rfl⟩

theorem AnswersAgree.afterInstruction {r r' : Result} (h : AnswersAgree r r') :
    AnswersAgree (afterInstruction r) (afterInstruction r') := by
  cases h with
  | next h => exact .next h.countDown
  | refused r => exact .refused r

theorem cpuStep_agree (h : SameButLcd s t) : AnswersAgree s.cpuStep t.cpuStep := by
  obtain ⟨l, rfl⟩ := id h
  have hawake : SameButLcd { s with cpu.halted := false } { s with cpu.halted := false, lcd := l } :=
    ⟨l, rfl⟩
  exact .ite (.finish h _)
    (.ite (.next (hawake.enterInterrupt _)) (execute_agree hawake).afterInstruction)

/-! The driver. -/

theorem SameButLcd.hdmaAtHblank (h : SameButLcd s t) :
    SameButLcd s.hdmaAtHblank t.hdmaAtHblank := by
  obtain ⟨l, rfl⟩ := id h
  simp only [State.hdmaAtHblank]
  split
  · exact h.hdmaBlock
  · exact h

/-- The only operation that renders is the entry of mode 0. -/
theorem SameButLcd.enterMode (h : SameButLcd s t) (m : LcdMode) :
    SameButLcd (s.enterMode m) (t.enterMode m) := by
  obtain ⟨l, rfl⟩ := h
  cases m <;> simp only [State.enterMode, State.requestIf_eq]
  case hblank => exact .hdmaAtHblank ⟨_, rfl⟩
  all_goals exact ⟨l, rfl⟩

theorem SameButLcd.advanceDot (h : SameButLcd s t) :
    SameButLcd s.advanceDot t.advanceDot :=
  h.map (·.advanceDot) fun _ _ => by
    simp only [State.advanceDot, State.requestIf_eq]
    split <;> rfl

theorem SameButLcd.updateMode (h : SameButLcd s t) :
    SameButLcd s.updateMode t.updateMode := by
  obtain ⟨l, rfl⟩ := id h
  simp only [State.updateMode]
  split
  · exact h
  · exact .enterMode ⟨l, rfl⟩ _

theorem SameButLcd.dot (h : SameButLcd s t) : SameButLcd s.dot t.dot := by
  obtain ⟨l, rfl⟩ := id h
  unfold State.dot
  split
  · exact h.advanceDot.updateMode
  · exact h

theorem SameButLcd.tick (h : SameButLcd s t) (n : Nat) :
    SameButLcd (State.tick n s) (State.tick n t) := by
  induction n generalizing s t with
  | zero => exact h
  | succ n ih => exact ih h.dot

theorem SameButLcd.takePosts (h : SameButLcd s t) :
    SameButLcd s.takePosts t.takePosts :=
  h.map (·.takePosts) fun _ _ => by
    simp only [State.takePosts]
    split <;> rfl

theorem SameButLcd.drive (h : SameButLcd s t) : SameButLcd s.drive t.drive := by
  obtain ⟨l, rfl⟩ := id h
  exact (h.tick s.cycles).takePosts

theorem step_agree (h : SameButLcd s t) : AnswersAgree (step s) (step t) := by
  have hcpu := cpuStep_agree h
  unfold step State.turn
  generalize s.cpuStep = r, t.cpuStep = r' at hcpu
  cases hcpu with
  | next h => exact .next h.drive
  | refused r => exact .refused r

end

/-- Settles O60: no operation of a step reads the screen, so steps from two states that differ in it
agree but for it. -/
theorem screenIsNotObservable : Obligations.ScreenIsNotObservable := by
  intro s l
  have hstep := step_agree (s := s) ⟨l, rfl⟩
  generalize step s = r, step { s with lcd := l } = r' at hstep
  cases hstep with
  | next h =>
    obtain ⟨l', rfl⟩ := h
    exact ⟨fun t ht => by cases ht; exact ⟨l', rfl⟩, fun q hq => nomatch hq⟩
  | refused r => exact ⟨fun t ht => (nomatch ht), fun q hq => hq⟩

end Sys2Proof.Machine
end

section
/-! The registers and the bus: the frame of the control registers, the views of the registers, and what
a read does. -/

namespace Sys2Proof.Machine

/-! The frame of the CPU's control registers (R34, R37, R39 to R42). -/

/-- A CB form read by its second byte writes neither SP nor PC, and is not EI, DI, RETI or HALT; every
other form is read as itself. -/
theorem unprefixed_control (f : Form) :
    f.unprefixed.writesSp = f.writesSp ∧ f.unprefixed.writesPc = f.writesPc ∧
    (f.unprefixed = .ei → f = .ei) ∧ (f.unprefixed = .di → f = .di) ∧
    (f.unprefixed = .reti → f = .reti) ∧ (f.unprefixed = .halt → f = .halt) := by
  cases f with
  | prefixed op2 =>
    obtain ⟨hsp, hpc, hei, hdi, hreti, hhalt⟩ := cbForm_plain op2
    simp only [Form.unprefixed, formOf_decodeCb]
    exact ⟨hsp, hpc, (absurd · hei), (absurd · hdi), (absurd · hreti), (absurd · hhalt)⟩
  | _ => exact ⟨rfl, rfl, id, id, id, id⟩

/-- Of the control registers, EI writes the EI delay only, DI and RETI write IME and the delay, and HALT
the halt state (R352, R374 to R376). -/
theorem runForm_controlFrame (f : Form) (s t : State) (np : ∀ op2, f ≠ .prefixed op2)
    (e : runForm f s = .next t) :
    (f ≠ .di → f ≠ .reti → t.cpu.ime = s.cpu.ime) ∧
    (f ≠ .ei → f ≠ .di → f ≠ .reti → t.cpu.imeSched = s.cpu.imeSched) ∧
    (f ≠ .halt → t.cpu.halted = s.cpu.halted ∧ t.cpu.holdPc = s.cpu.holdPc) := by
  by_cases hei : f = .ei
  · subst hei
    cases e
    exact ⟨fun _ _ => rfl, fun h => absurd rfl h, fun _ => ⟨rfl, rfl⟩⟩
  by_cases hdi : f = .di
  · subst hdi
    cases e
    exact ⟨fun h => absurd rfl h, fun _ h => absurd rfl h, fun _ => ⟨rfl, rfl⟩⟩
  by_cases hreti : f = .reti
  · subst hreti
    cases e
    refine ⟨fun _ h => absurd rfl h, fun _ _ h => absurd rfl h, fun _ => ?_⟩
    simp [State.returnFromInterrupt, pop16_cpu]
  by_cases hhalt : f = .halt
  · subst hhalt
    simp only [runForm, suspend] at e
    split at e <;> cases e <;> exact ⟨fun _ _ => rfl, fun _ _ _ => rfl, fun h => absurd rfl h⟩
  obtain ⟨hime, hsched, hhalted, hhold⟩ := runForm_control f s t np e hei hdi hreti hhalt
  exact ⟨fun _ _ => hime, fun _ _ _ => hsched, fun _ => ⟨hhalted, hhold⟩⟩

/-- Settles O39: the frame of the instruction's form, a CB form by its second byte. -/
theorem controlRegistersFrame : Obligations.ControlRegistersFrame := by
  intro i s t h
  have hparams := (exec_effect h).params
  rw [exec_eq_unprefixed] at h
  have np := unprefixed_ne_prefixed (formOf i)
  obtain ⟨hf, hsp, hpc⟩ := runForm_leaves _ s t np h
  obtain ⟨hime, hsched, hhalt⟩ := runForm_controlFrame _ s t np h
  obtain ⟨esp, epc, cei, cdi, creti, chalt⟩ := unprefixed_control (formOf i)
  obtain ⟨iei, idi, ireti, ihalt⟩ := formOf_control i
  have nei : i ≠ .ei → (formOf i).unprefixed ≠ .ei := mt (iei ∘ cei)
  have ndi : i ≠ .di → (formOf i).unprefixed ≠ .di := mt (idi ∘ cdi)
  have nreti : i ≠ .reti → (formOf i).unprefixed ≠ .reti := mt (ireti ∘ creti)
  have nhalt : i ≠ .halt → (formOf i).unprefixed ≠ .halt := mt (ihalt ∘ chalt)
  exact ⟨hf, fun k => hsp (esp.trans k), fun k => hpc (epc.trans k),
    fun k1 k2 => hime (ndi k1) (nreti k2), fun k1 k2 k3 => hsched (nei k1) (ndi k2) (nreti k3),
    fun k => hhalt (nhalt k), hparams⟩

/-! The views of the registers (R31 to R33, R36). -/

/-- The four flags stand in separate bits, so their OR is their sum (R36). -/
theorem flagByte_eq_sum (z n h c : Bool) :
    flagByte z n h c = (if z then 0x80 else 0) + (if n then 0x40 else 0) + (if h then 0x20 else 0) +
      (if c then 0x10 else 0) := by
  revert z n h c
  decide

theorem reg_setReg (s : State) (r q : Reg8) (v : Byte) :
    (s.setReg r v).reg q = if q = r then v else s.reg q := by
  by_cases h : q = r
  · simp [h]
  · simp [h, State.reg_setReg_other]

/-- Settles O6: flags by their bits, registers and pairs by name, halves by value. -/
theorem registerViews : Obligations.RegisterViews := by
  intro s r q p v w z n h c
  refine ⟨flagByte_eq_sum z n h c, flagZ_flagByte z n h c, flagN_flagByte z n h c,
    flagH_flagByte z n h c, flagC_flagByte z n h c, flagByte_low z n h c, reg_setReg s r q v, ?_, ?_,
    State.pair_setPair_same s p w, toNat_word _ _, toNat_word _ _, toNat_word _ _, toNat_word _ _,
    rfl, rfl, toNat_hi w, toNat_lo w, rfl, rfl, rfl, rfl, rfl, rfl, rfl, rfl⟩
  · cases r <;> rfl
  · cases r <;> rfl

/-! Bus reads (R85, R87, R97, R102). -/

/-- The regions a device of its own state answers from: the external I/O window, and the cartridge when
its contents are not known (R90, R97). -/
theorem drawsAt_iff (s : State) (r : Region) :
    s.drawsAt r = true ↔ (∃ n, r = .io (.external n)) ∨ s.cartKnown = false ∧ ∃ n, r = .cart n := by
  cases r with
  | cart n => simp [State.drawsAt]
  | io r => cases r <;> simp [State.drawsAt]
  | _ => simp [State.drawsAt]

theorem peek_touch (s : State) (a b : Word) (h : s.drawsAt (route b) = false) :
    (s.touch a).peek b = s.peek b := (quiet_touch s a).peek b h

/-- A cartridge with a state of its own: its answer is free, and every access enters its record. -/
theorem cart_device (s : State) (a : Word) (x : Byte) (k n : Nat) (hk : s.params.cart = .device k)
    (ha : route a = .cart n) :
    s.peek a = Config.cartByte (.device k) s.env.cartLog s.env.draws n ∧
    s.touch a = { s with env.draws := ⟨a, s.env.cartLog.length⟩ :: s.env.draws } ∧
    s.set8 a x = { s with env.cartLog := (n, x) :: s.env.cartLog } := by
  have hunknown : s.cartKnown = false := by simp [State.cartKnown, hk]
  refine ⟨?_, ?_, ?_⟩
  · simp [State.peek, ha, State.readRegion, State.readCart, hunknown, hk]
  · simp [State.touch, ha, State.drawsAt, hunknown]
  · simp [State.set8, ha, State.writeRegion, State.writeMem, State.writeCart, hk]

/-- Settles O41: a word is its two bytes, and a read does no more than `touch`. -/
theorem busReads : Obligations.BusReads := by
  intro s a b v x k n
  refine ⟨?_, rfl, ?_, ?_, State.touch_eq s a, State.touch_of_not_draws s a, peek_touch s a b,
    (drawsAt_iff s (route a)).mp, cart_device s a x k n⟩
  · show (word ((s.touch a).peek (a + 1)) (s.peek a)).toNat = _
    rw [toNat_word]
    omega
  · rw [State.set16, lo, hi]
    rfl
  · rintro rfl
    rfl

end Sys2Proof.Machine
end

section
/-! The address map (R84, R92, R94, R95), region by region. -/

namespace Sys2Proof.Machine

theorem route_eq_cart_rom {a : Word} (h : a.toNat < 0x8000) : route a = .cart a.toNat := by
  simp (disch := omega) only [route, routeNat, if_pos]

theorem route_eq_vram {a : Word} (h : 0x8000 ≤ a.toNat) (h' : a.toNat < 0xA000) :
    route a = .vram (a.toNat - 0x8000) := by
  simp (disch := omega) only [route, routeNat, if_pos, if_neg]

theorem route_eq_cart_ram {a : Word} (h : 0xA000 ≤ a.toNat) (h' : a.toNat < 0xC000) :
    route a = .cart a.toNat := by
  simp (disch := omega) only [route, routeNat, if_pos, if_neg]

theorem route_eq_wram {a : Word} (h : 0xC000 ≤ a.toNat) (h' : a.toNat < 0xE000) :
    route a = .wram (a.toNat - 0xC000) := by
  simp (disch := omega) only [route, routeNat, if_pos, if_neg]

theorem route_eq_echo {a : Word} (h : 0xE000 ≤ a.toNat) (h' : a.toNat < 0xFE00) :
    route a = .wram (a.toNat - 0xE000) := by
  simp (disch := omega) only [route, routeNat, if_pos, if_neg]

theorem route_eq_oam {a : Word} (h : 0xFE00 ≤ a.toNat) (h' : a.toNat < 0xFEA0) :
    route a = .oam (a.toNat - 0xFE00) := by
  simp (disch := omega) only [route, routeNat, if_pos, if_neg]

theorem route_eq_unmapped {a : Word} (h : 0xFEA0 ≤ a.toNat) (h' : a.toNat < 0xFF00) :
    route a = .unmapped := by
  simp (disch := omega) only [route, routeNat, if_pos, if_neg]

theorem route_eq_io {a : Word} (h : 0xFF00 ≤ a.toNat) (h' : a.toNat < 0xFF80) :
    route a = .io (ioReg a.toNat) := by
  simp (disch := omega) only [route, routeNat, if_pos, if_neg]

theorem route_eq_hram {a : Word} (h : 0xFF80 ≤ a.toNat) (h' : a.toNat < 0xFFFF) :
    route a = .hram (a.toNat - 0xFF80) := by
  simp (disch := omega) only [route, routeNat, if_pos, if_neg]

/-- Echo RAM is the work RAM 0x2000 below it (R92). -/
theorem route_echo {a : Word} (h : 0xE000 ≤ a.toNat) (h' : a.toNat < 0xFE00) :
    route a = route (a - 0x2000) := by
  have hsub : (a - 0x2000).toNat = a.toNat - 0x2000 :=
    BitVec.toNat_sub_of_le (by bv_omega)
  rw [route_eq_echo h h', route_eq_wram (by omega) (by omega), hsub]
  exact congrArg Region.wram (by omega)

/-- Reads of two addresses of one region index agree, and so do stores. -/
theorem access_of_route_eq (s : State) (v : Byte) {a b : Word} (h : route a = route b) :
    s.peek a = s.peek b ∧ s.set8 a v = s.set8 b v := by
  simp only [State.peek, State.set8, h, and_self]

/-- The addresses of the I/O window that the block owns (R95). -/
def ownedRegs : List (Word × IoReg) :=
  [(0xFF0F, .irqFlags), (0xFF40, .lcdc), (0xFF41, .stat), (0xFF42, .scy), (0xFF43, .scx),
   (0xFF44, .ly), (0xFF45, .lyc), (0xFF46, .dma), (0xFF47, .bgp), (0xFF48, .obp0), (0xFF49, .obp1),
   (0xFF4A, .wy), (0xFF4B, .wx), (0xFF4F, .vbk), (0xFF51, .hdma1), (0xFF52, .hdma2), (0xFF53, .hdma3),
   (0xFF54, .hdma4), (0xFF55, .hdma5), (0xFF68, .bcps), (0xFF69, .bcpd), (0xFF6A, .ocps),
   (0xFF6B, .ocpd)]

theorem route_owned : ∀ p ∈ ownedRegs, route p.1 = .io p.2 := by decide

theorem ioReg_of_not_owned {a : Word} (h : a ∉ ownedRegs.map Prod.fst) :
    ioReg a.toNat = .external a.toNat := by
  simp only [ownedRegs, List.map, List.mem_cons, not_or, ← BitVec.toNat_inj, BitVec.reduceToNat] at h
  simp only [ioReg, h, if_false]

/-- Settles O40: each range of R84 by its own rule, the owned registers by evaluation, and the rest of
the I/O window external. -/
theorem addressMap : Obligations.AddressMap := by
  intro a s v
  refine ⟨?cart, fun ⟨h, h'⟩ => route_eq_vram h h', fun ⟨h, h'⟩ => route_eq_wram h h', ?echo,
    fun ⟨h, h'⟩ => route_eq_oam h h', ?unmapped, fun ⟨h, h'⟩ => ⟨_, route_eq_io h h'⟩, route_owned,
    ?external, fun ⟨h, h'⟩ => route_eq_hram h h', ?irqEnable⟩
  case cart =>
    rintro (h | ⟨h, h'⟩)
    · exact route_eq_cart_rom h
    · exact route_eq_cart_ram h h'
  case echo =>
    rintro ⟨h, h'⟩
    have hroute := route_echo h h'
    exact ⟨hroute, access_of_route_eq s v hroute⟩
  case unmapped =>
    rintro ⟨h, h'⟩
    have hroute := route_eq_unmapped h h'
    simp [State.peek, State.set8, hroute, State.readRegion, State.writeRegion, State.writeMem]
  case external =>
    rintro ⟨h, h'⟩ hnot
    have hroute : route a = .io (.external a.toNat) :=
      (route_eq_io h h').trans (congrArg _ (ioReg_of_not_owned hnot))
    exact ⟨hroute, by rw [State.set8, hroute]; rfl⟩
  case irqEnable =>
    intro h
    rw [route, h]
    rfl

end Sys2Proof.Machine
end

section
/-! Plain memory (R84, R86, R91, R93, R96): what a store leaves, and what it changes. -/

namespace Sys2Proof.Machine

theorem Memory.read_write (m : Memory) (k j : Nat) (v : Byte) (h : m.wf = true) :
    Memory.read (Memory.write m k v) j = if j = k then v else Memory.read m j := by
  split
  · rename_i hjk
    rw [hjk, Memory.read_write_same m k v h]
  · rename_i hjk
    exact Memory.read_write_other m k j v hjk

theorem bank1_iff (s : State) : s.bank1 = true ↔ s.params.model = .cgb ∧ s.ppu.vbk = 1 := by
  unfold State.bank1
  cases s.params.model <;> simp

theorem writeCart_flat (s : State) (n : Nat) (v : Byte) (hflat : s.params.cart = .flat)
    (hram : 0x8000 ≤ n) : s.writeCart n v = { s with mem.cart := Memory.write s.mem.cart n v } := by
  rw [State.writeCart, hflat]
  exact if_neg (by omega)

theorem storage_ne_io {r : Region} (h : r.storage = true) (q : IoReg) : r ≠ .io q := by
  rintro rfl
  cases h

/-- A store that the plain cartridge or any other memory keeps changes the memories only. -/
theorem writeMem_eq_mem (s : State) (v : Byte) (r : Region) (hstorage : r.storage = true)
    (hcart : ∀ n, r = .cart n → s.params.cart = .flat ∧ 0x8000 ≤ n) :
    s.writeMem v r = { s with mem := (s.writeMem v r).mem } := by
  cases r with
  | cart n =>
    obtain ⟨hflat, hram⟩ := hcart n rfl
    simp only [State.writeMem, writeCart_flat s n v hflat hram]
  | vram i =>
    simp only [State.writeMem, State.writeVram]
    split <;> rfl
  | wram i | oam i | hram i => rfl
  | unmapped | io q | irqEnable => cases hstorage

/-- A store to another place, where only the plain cartridge is stored to, leaves a byte. -/
theorem peek_set8_other (s : State) (a b : Word) (v : Byte) (hio : ∀ q, route a ≠ .io q)
    (hcart : ∀ n, route a = .cart n → s.params.cart = .flat) (hne : route b ≠ route a) :
    (s.set8 a v).peek b = s.peek b := by
  rw [State.set8_of_not_io s a v hio]
  refine readRegion_writeMem s v _ _ hne ?_
  by_cases h : ∃ n, route a = .cart n
  · obtain ⟨n, hn⟩ := h
    exact .inl (hcart n hn)
  · exact .inr (.inr fun n hn => h ⟨n, hn⟩)

/-- Settles O42: a store to plain memory is one `Memory.write`, in the memory its region names. -/
theorem readAfterWrite : Obligations.ReadAfterWrite := by
  refine ⟨fun s a b v hok hstorage hcart => ?_, fun m k j v hwf =>
    ⟨Memory.wf_write m k v hwf, Memory.read_write m k j v hwf⟩⟩
  have hio := storage_ne_io hstorage
  have hflat : ∀ n, route a = .cart n → s.params.cart = .flat ∧ 0x8000 ≤ n := fun n hn =>
    route_cart hn ▸ hcart n hn
  refine ⟨peek_set8_same s a v hok hstorage hcart,
    peek_set8_other s a b v hio fun n hn => (hflat n hn).1, ?_⟩
  rw [State.set8_of_not_io s a v hio]
  refine ⟨writeMem_eq_mem s v _ hstorage hflat, writeMem_memOk s v a hok, ?_⟩
  cases hroute : route a with
  | cart n =>
    obtain ⟨hplain, hram⟩ := hflat n hroute
    simp only [State.writeMem, writeCart_flat s n v hplain hram]
  | vram i =>
    simp only [State.writeMem, State.writeVram, bank1_iff, apply_ite State.mem]
  | wram i | oam i | hram i => rfl
  | unmapped | io q | irqEnable =>
    rw [hroute] at hstorage
    cases hstorage

end Sys2Proof.Machine
end

section
/-! The decoder and the encoder agree (30_encoding.md): an instruction's own bytes, whatever follows them,
are read as that instruction, and a list of bytes that is long enough is read as one. -/

namespace Sys2Proof

/-- A well-formed instruction's own bytes decode to it: the operands as they stand, a word from its two
halves, and the prefix is none (R154). -/
theorem decode_encode_self (i : Instr) : Laws.OwnBytes.Statement i := by
  intro h
  cases i with
  | prefixCb op2 => cases h
  | ldBcNn nn | ldDeNn nn | ldHlNn nn | ldSpNn nn | ldIndNnSp nn | ldIndNnA nn | ldAIndNn nn
  | jpNn nn | jpNzNn nn | jpZNn nn | jpNcNn nn | jpCNn nn
  | callNn nn | callNzNn nn | callZNn nn | callNcNn nn | callCNn nn =>
    exact Laws.OwnBytes.of_imm16 _ _ nn rfl
  | _ => rfl

/-- Settles O1: an instruction's own bytes decode to it, and more bytes after them are left over. -/
theorem decodeEncode : Obligations.DecodeEncode := fun i _ hwf =>
  decode_append (decode_encode_self i hwf)

/-- What decoding can do with a first byte: the list ends inside the instruction, or it begins with the
encoding of the instruction read, whose length the first byte gives (R131, R154). -/
theorem decode_cons_cases (op : Byte) (tail : List Byte) :
    (tail.length + 1 < instrLength op ∧ decode (op :: tail) = .error .truncated) ∨
    ∃ i rest, decode (op :: tail) = .ok (i, rest) ∧ wellFormed i = true ∧
      op :: tail = encode i ++ rest ∧ (encode i).length = instrLength op := by
  have hcell := decodeOp_encodesAt op
  simp only [instrLength, decode]
  generalize decodeOp op = fmt at hcell ⊢
  cases fmt with
  | op i =>
    obtain ⟨henc, hwf⟩ := hcell
    exact .inr ⟨i, tail, rfl, hwf, by simp [henc], by simp [henc]⟩
  | imm8 f =>
    match tail with
    | [] => exact .inl ⟨by simp, rfl⟩
    | n :: rest =>
      obtain ⟨henc, hwf⟩ := hcell n
      exact .inr ⟨f n, rest, rfl, hwf, by simp [henc], by simp [henc]⟩
  | imm16 f =>
    match tail with
    | [] | [_] => exact .inl ⟨by simp, rfl⟩
    | l :: u :: rest =>
      obtain ⟨henc, hwf⟩ := hcell (word u l)
      exact .inr ⟨f (word u l), rest, rfl, hwf, by simp [henc], by simp [henc]⟩
  | cbPrefix =>
    obtain rfl : op = 0xCB := hcell
    match tail with
    | [] => exact .inl ⟨by simp, rfl⟩
    | op2 :: rest =>
      obtain ⟨henc, hwf⟩ := encode_decodeCb op2
      exact .inr ⟨decodeCb op2, rest, rfl, hwf, by simp [henc], by simp [henc]⟩

/-- Settles O2: decoding succeeds only on the encoding of what it reads. -/
theorem encodeDecode : Obligations.EncodeDecode := by
  intro bytes rest i h
  cases bytes with
  | nil => cases h
  | cons op tail =>
    obtain ⟨-, herr⟩ | ⟨j, more, hok, hwf, hbytes, -⟩ := decode_cons_cases op tail
    · cases herr.symm.trans h
    · cases hok.symm.trans h
      exact ⟨hwf, hbytes⟩

/-- Settles O3: the length table byte by byte, then the two ends a decoding can have. -/
theorem decodeTotal : Obligations.DecodeTotal := by
  intro op rest
  refine ⟨by revert op; decide +kernel, ?_⟩
  obtain ⟨hshort, herr⟩ | ⟨i, more, hok, -, hbytes, hlen⟩ := decode_cons_cases op rest
  · exact ⟨fun hlong => by omega, fun _ => herr⟩
  · have hdrop : (op :: rest).drop (instrLength op) = more := by rw [hbytes, ← hlen, List.drop_left]
    have hlong : rest.length + 1 = instrLength op + more.length := by
      rw [← List.length_cons, hbytes, List.length_append, hlen]
    exact ⟨fun _ => ⟨i, hdrop ▸ hok⟩, fun hshort => by omega⟩

end Sys2Proof
end

section
/-! The loads (40_loads.md): each family's form and encoding, what each shared operation of a load or a
store does, and the statements. -/

namespace Sys2Proof.Machine

/-! The families by their fields (R135, R136, R201 to R204, R220). -/

theorem formOf_iLdRegReg (dst r : Reg8) : formOf (iLdRegReg dst r) = .ldRegReg dst r := by
  cases dst <;> cases r <;> rfl

theorem formOf_iLdRegImm (dst : Reg8) (n : Byte) : formOf (iLdRegImm dst n) = .ldRegImm dst n := by
  cases dst <;> rfl

theorem formOf_iLdRegMem (dst : Reg8) : formOf (iLdRegMem dst) = .ldRegMem dst := by
  cases dst <;> rfl

theorem formOf_iLdMemReg (r : Reg8) : formOf (iLdMemReg r) = .ldMemReg r := by
  cases r <;> rfl

theorem formOf_iLdPairImm (p : Pair) (nn : Word) : formOf (iLdPairImm p nn) = .ldPairImm p nn := by
  cases p <;> rfl

theorem encode_iLdRegReg (dst r : Reg8) :
    encode (iLdRegReg dst r) = [BitVec.ofNat 8 (0x40 + 8 * dst.code + r.code)] := by
  cases dst <;> cases r <;> rfl

theorem encode_iLdRegImm (dst : Reg8) (n : Byte) :
    encode (iLdRegImm dst n) = [BitVec.ofNat 8 (0x06 + 8 * dst.code), n] := by
  cases dst <;> rfl

theorem encode_iLdRegMem (dst : Reg8) :
    encode (iLdRegMem dst) = [BitVec.ofNat 8 (0x46 + 8 * dst.code)] := by
  cases dst <;> rfl

theorem encode_iLdMemReg (r : Reg8) : encode (iLdMemReg r) = [BitVec.ofNat 8 (0x70 + r.code)] := by
  cases r <;> rfl

theorem encode_iLdPairImm (p : Pair) (nn : Word) :
    encode (iLdPairImm p nn) = [BitVec.ofNat 8 (0x01 + 16 * p.code), lo nn, hi nn] := by
  cases p <;> rfl

/-! The shared operations (R200 to R224): the next state. A load's register write and a step of HL reach
the CPU only, after the one access to the bus. -/

theorem ldRegMem_eq (dst : Reg8) (s : State) :
    ldRegMem dst s = .next { (s.touch s.hl).setReg dst (s.peek s.hl) with cycles := 8 } := rfl

theorem loadA_eq (c : Nat) (a : Word) (s : State) :
    loadA c a s = .next { s.touch a with cpu.a := s.peek a, cycles := c } := rfl

theorem storeA_eq (c : Nat) (a : Word) (s : State) :
    storeA c a s = .next { s.set8 a s.cpu.a with cycles := c } := rfl

theorem loadAStep_eq (d : Word) (s : State) :
    loadAStep d s = .next (State.setPair
      { s.touch s.hl with cpu.a := s.peek s.hl, cycles := 8 } .hl (s.hl + d)) := rfl

theorem storeAStep_eq (d : Word) (s : State) :
    storeAStep d s = .next (State.setPair
      { s.set8 s.hl s.cpu.a with cycles := 8 } .hl (s.hl + d)) := rfl

theorem storeSp_eq (nn : Word) (s : State) :
    storeSp nn s =
      .next { (s.set8 nn (lo s.cpu.sp)).set8 (nn + 1) (hi s.cpu.sp) with cycles := 20 } := rfl

theorem spAddFlags_eq (sp : Word) (e : Byte) :
    spAddFlags sp e = flagByte false false (decide (sp.toNat % 16 + e.toNat % 16 > 0xF))
      (decide (sp.toNat % 256 + e.toNat > 0xFF)) := rfl

theorem ldHlSpPlus_eq (e : Byte) (s : State) :
    ldHlSpPlus e s = .next { s.setPair .hl (s.cpu.sp + e.signExtend 16) with
      cpu.f := spAddFlags s.cpu.sp e, cycles := 12 } := rfl

theorem addSpOffset_eq (e : Byte) (s : State) :
    addSpOffset e s = .next { s with
      cpu.sp := s.cpu.sp + e.signExtend 16, cpu.f := spAddFlags s.cpu.sp e, cycles := 16 } := rfl

end Sys2Proof.Machine

/-! The statements. They stand in a namespace of their own, since `loadA` and `storeA` are operations of
the model. -/

namespace Sys2Proof.Loads

open Sys2Proof.Machine

/-- Settles O4: each word is its instruction's encoding, with the bytes after it left over. -/
theorem sampleWords : Obligations.SampleWords :=
  ⟨decodeEncode (.ldAN 5) [] rfl, decodeEncode (.addAN 3) [] rfl, decodeEncode (.jrE (-2)) [] rfl,
    decodeEncode (.callNn 0x1234) [] rfl, decodeEncode .bit0A [] rfl, decodeEncode .set7IndHl [] rfl,
    decodeEncode (.ldIndNnSp 0xC100) [0x55] rfl, decodeEncode .illegalD3 [0x00] rfl⟩

/-- Settles O7: the family's form names the shared operation, and HL is read before the write. -/
theorem loadRegister : Obligations.LoadRegister := by
  intro s dst r n
  simp only [exec_eq_runForm, formOf_iLdRegReg, formOf_iLdRegImm, formOf_iLdRegMem]
  exact ⟨encode_iLdRegReg dst r, finish_eq 4 _, encode_iLdRegImm dst n, finish_eq 8 _,
    encode_iLdRegMem dst, ldRegMem_eq dst s⟩

/-- Settles O8: the one store takes the address and the byte from the state before it. -/
theorem storeAtHl : Obligations.StoreAtHl := by
  intro s r n
  simp only [exec_eq_runForm, formOf_iLdMemReg]
  exact ⟨encode_iLdMemReg r, finish_eq 8 _, rfl, finish_eq 12 _⟩

/-- Settles O9: five addresses of one load, and the two loads that step HL by 1 and by -1. -/
theorem loadA : Obligations.LoadA := by
  intro s n nn
  refine ⟨loadA_eq 8 s.bc s, loadA_eq 8 s.de s, loadA_eq 16 nn s, loadA_eq 8 (highPage s.cpu.c) s,
    loadA_eq 12 (highPage n) s, loadAStep_eq 1 s, ?_, rfl, rfl, rfl, rfl, rfl, rfl, rfl⟩
  rw [BitVec.sub_eq_add_neg]
  exact loadAStep_eq (-1) s

/-- Settles O10: five addresses of one store, and the two stores that step HL by 1 and by -1. -/
theorem storeA : Obligations.StoreA := by
  intro s n nn
  refine ⟨storeA_eq 8 s.bc s, storeA_eq 8 s.de s, storeA_eq 16 nn s, storeA_eq 8 (highPage s.cpu.c) s,
    storeA_eq 12 (highPage n) s, storeAStep_eq 1 s, ?_, rfl, rfl, rfl, rfl, rfl, rfl, rfl⟩
  rw [BitVec.sub_eq_add_neg]
  exact storeAStep_eq (-1) s

/-- Settles O11: a pair written, SP stored as two bytes, SP from HL, and SP plus the signed byte with
the flags of the unsigned low bytes. -/
theorem load16 : Obligations.Load16 := by
  intro s p e nn sum f
  have hf : f = spAddFlags s.cpu.sp e := (spAddFlags_eq s.cpu.sp e).symm
  rw [exec_eq_runForm (iLdPairImm p nn), formOf_iLdPairImm, hf]
  exact ⟨encode_iLdPairImm p nn, finish_eq 12 _, rfl, storeSp_eq nn s, rfl, finish_eq 8 _, rfl,
    ldHlSpPlus_eq e s, rfl, addSpOffset_eq e s⟩

end Sys2Proof.Loads
end

section
/-! The 8-bit ALU (41_alu8.md): the three operand forms of an operation as one meaning, and the
statements. -/

namespace Sys2Proof.Machine

/-- The operation `op` on A and `v`, ending in `t`: A and F from `alu8` over the A and F of `s`, where CP
leaves A (R265). -/
def aluNext (op : AluOp) (s t : State) (v : Byte) (dots : Nat) : Result :=
  let r := alu8 op s.cpu.a v (flagC s.cpu.f)
  .next (t.afterAlu (if op = .cp then s.cpu.a else r.res) r.z r.n r.h r.c dots)

/-- The shared operation of the three forms, on a state that holds the A and F of `s`. -/
theorem finish_alu (op : AluOp) (s t : State) (v : Byte) (dots : Nat) (hcpu : t.cpu = s.cpu) :
    finish dots (t.alu op v) = aluNext op s t v dots := by
  rw [finish_eq, aluNext, ← hcpu]
  cases op <;> rfl

theorem formOf_iAluReg (op : AluOp) (r : Reg8) : formOf (iAluReg op r) = .aluReg op r := by
  cases op <;> cases r <;> rfl

theorem formOf_iAluMem (op : AluOp) : formOf (iAluMem op) = .aluMem op := by
  cases op <;> rfl

theorem formOf_iAluImm (op : AluOp) (n : Byte) : formOf (iAluImm op n) = .aluImm op n := by
  cases op <;> rfl

theorem exec_iAluReg (op : AluOp) (r : Reg8) (s : State) :
    exec (iAluReg op r) s = aluNext op s s (s.reg r) 4 := by
  rw [exec_eq_runForm, formOf_iAluReg]
  exact finish_alu op s s _ 4 rfl

/-- The read of the operand draws from a device at most, so A and F are those before it. -/
theorem exec_iAluMem (op : AluOp) (s : State) :
    exec (iAluMem op) s = aluNext op s (s.touch s.hl) (s.peek s.hl) 8 := by
  rw [exec_eq_runForm, formOf_iAluMem]
  exact finish_alu op s _ _ 8 (s.touch_cpu s.hl)

theorem exec_iAluImm (op : AluOp) (n : Byte) (s : State) :
    exec (iAluImm op n) s = aluNext op s s n 8 := by
  rw [exec_eq_runForm, formOf_iAluImm]
  exact finish_alu op s s n 8 rfl

/-- The encodings of the three forms, by the code k of the operation (R141). -/
theorem encode_iAlu (op : AluOp) (r : Reg8) (n : Byte) :
    encode (iAluReg op r) = [BitVec.ofNat 8 (0x80 + 8 * aluCode op + r.code)] ∧
    encode (iAluMem op) = [BitVec.ofNat 8 (0x86 + 8 * aluCode op)] ∧
    encode (iAluImm op n) = [BitVec.ofNat 8 (0xC6 + 8 * aluCode op), n] :=
  ⟨by cases op <;> cases r <;> rfl, by cases op <;> rfl, by cases op <;> rfl⟩

/-- Settles O12: both are the exact sum, ADD with no carry-in and ADC with the carry flag. -/
theorem addAndAdc : Obligations.AddAndAdc := by
  intro s r n sum fc
  have hadd (t v dots) : aluNext .add s t v dots = sum t v 0 dots := by
    rw [aluNext, alu8, add8_eq]
    rfl
  have hadc (t v dots) : aluNext .adc s t v dots = sum t v fc dots := by
    rw [aluNext, alu8, add8_eq]
    rfl
  simp only [exec_iAluReg, exec_iAluMem, exec_iAluImm, hadd, hadc, true_and]
  exact fun k _ => encode_iAlu k r n

/-- Settles O13: all three are the exact difference, SBC with the carry flag as its borrow-in, and CP
stores the A it found. -/
theorem subSbcAndCp : Obligations.SubSbcAndCp := by
  intro s r n diff fc
  have hsub (t v dots) : aluNext .sub s t v dots = diff true t v 0 dots := by
    rw [aluNext, alu8, sub8_eq]
    rfl
  have hsbc (t v dots) : aluNext .sbc s t v dots = diff true t v fc dots := by
    rw [aluNext, alu8, sub8_eq]
    rfl
  have hcp (t v dots) : aluNext .cp s t v dots = diff false t v 0 dots := by
    rw [aluNext, alu8, sub8_eq]
    rfl
  simp only [exec_iAluReg, exec_iAluMem, exec_iAluImm, hsub, hsbc, hcp, true_and]
  exact fun k _ => encode_iAlu k r n

/-- Settles O14: the flags of a logic operation depend on its result and on whether it is AND. -/
theorem andXorOr : Obligations.AndXorOr := by
  intro s r n res
  have hand (t v dots) : aluNext .and s t v dots = res t (s.cpu.a &&& v) true dots := rfl
  have hxor (t v dots) : aluNext .xor s t v dots = res t (s.cpu.a ^^^ v) false dots := rfl
  have hor (t v dots) : aluNext .or s t v dots = res t (s.cpu.a ||| v) false dots := rfl
  simp only [exec_iAluReg, exec_iAluMem, exec_iAluImm, hand, hxor, hor, true_and]
  exact fun k _ => encode_iAlu k r n

end Sys2Proof.Machine
end

section
/-! 16-bit arithmetic, INC and DEC (42_alu16_incdec.md): each family's form and encoding, what each shared
operation does, and the statements. -/

namespace Sys2Proof.Machine

/-! The families by their fields (R135, R136, R276 to R280). -/

theorem formOf_iAddHl (p : Pair) : formOf (iAddHl p) = .addHl p := by
  cases p <;> rfl

theorem formOf_iIncPair (p : Pair) : formOf (iIncPair p) = .incPair p := by
  cases p <;> rfl

theorem formOf_iDecPair (p : Pair) : formOf (iDecPair p) = .decPair p := by
  cases p <;> rfl

theorem formOf_iIncReg (r : Reg8) : formOf (iIncReg r) = .incReg r := by
  cases r <;> rfl

theorem formOf_iDecReg (r : Reg8) : formOf (iDecReg r) = .decReg r := by
  cases r <;> rfl

theorem encode_iAddHl (p : Pair) : encode (iAddHl p) = [BitVec.ofNat 8 (0x09 + 16 * p.code)] := by
  cases p <;> rfl

theorem encode_iIncPair (p : Pair) : encode (iIncPair p) = [BitVec.ofNat 8 (0x03 + 16 * p.code)] := by
  cases p <;> rfl

theorem encode_iDecPair (p : Pair) : encode (iDecPair p) = [BitVec.ofNat 8 (0x0B + 16 * p.code)] := by
  cases p <;> rfl

theorem encode_iIncReg (r : Reg8) : encode (iIncReg r) = [BitVec.ofNat 8 (0x04 + 8 * r.code)] := by
  cases r <;> rfl

theorem encode_iDecReg (r : Reg8) : encode (iDecReg r) = [BitVec.ofNat 8 (0x05 + 8 * r.code)] := by
  cases r <;> rfl

/-! The shared operations (R276, R279 to R282): the next state. The flags come from the values before the
write, and F is written last. -/

theorem addHlPair_eq (p : Pair) (s : State) :
    addHlPair p s = .next { s.setPair .hl (s.hl + s.pair p) with
      cpu.f := flagByte (flagZ s.cpu.f) false (addHlH s.hl (s.pair p)) (addHlC s.hl (s.pair p)),
      cycles := 8 } := rfl

theorem incReg_eq (r : Reg8) (s : State) :
    incReg r s = .next { s.setReg r (s.reg r + 1) with
      cpu.f := (inc8 (s.reg r) (flagC s.cpu.f)).byte, cycles := 4 } := rfl

theorem decReg_eq (r : Reg8) (s : State) :
    decReg r s = .next { s.setReg r (s.reg r - 1) with
      cpu.f := (dec8 (s.reg r) (flagC s.cpu.f)).byte, cycles := 4 } := rfl

theorem incMem_eq (s : State) :
    incMem s = .next { (s.touch s.hl).set8 s.hl (s.peek s.hl + 1) with
      cpu.f := (inc8 (s.peek s.hl) (flagC s.cpu.f)).byte, cycles := 12 } := rfl

theorem decMem_eq (s : State) :
    decMem s = .next { (s.touch s.hl).set8 s.hl (s.peek s.hl - 1) with
      cpu.f := (dec8 (s.peek s.hl) (flagC s.cpu.f)).byte, cycles := 12 } := rfl

/-- The carry out of bit 3 when 1 is added: the low nibble was 0xF (R279). -/
theorem inc8_byte (v : Byte) (c : Bool) :
    (inc8 v c).byte = flagByte (v + 1 == 0) false (v &&& 0x0F == 0x0F) c := by
  rw [low_nibble_eq]
  rfl

/-- The borrow into bit 3 when 1 is subtracted: the low nibble was 0 (R280). -/
theorem dec8_byte (v : Byte) (c : Bool) :
    (dec8 v c).byte = flagByte (v - 1 == 0) true (v &&& 0x0F == 0) c := by
  rw [low_nibble_eq]
  rfl

/-- Settles O15: ADD HL,rr adds to HL with F from the old values, and INC rr and DEC rr write the pair
alone. -/
theorem pairArithmetic : Obligations.PairArithmetic := by
  intro s p
  simp only [exec_eq_runForm, formOf_iAddHl, formOf_iIncPair, formOf_iDecPair]
  exact ⟨encode_iAddHl p, addHlPair_eq p s, encode_iIncPair p, finish_eq 8 _, encode_iDecPair p,
    finish_eq 8 _⟩

/-- Settles O16: the register and the memory form share the flags of `inc8` and `dec8`, which read H off
the low nibble before the step. -/
theorem incDec : Obligations.IncDec := by
  intro s r fInc fDec m
  have hinc (v) : fInc v = (inc8 v (flagC s.cpu.f)).byte := (inc8_byte v _).symm
  have hdec (v) : fDec v = (dec8 v (flagC s.cpu.f)).byte := (dec8_byte v _).symm
  simp only [exec_eq_runForm, formOf_iIncReg, formOf_iDecReg, hinc, hdec]
  exact ⟨encode_iIncReg r, incReg_eq r s, encode_iDecReg r, decReg_eq r s, rfl, incMem_eq s, rfl,
    decMem_eq s⟩

end Sys2Proof.Machine
end

section
/-! DAA, the instructions on A and F, and NOP (43_misc_alu.md): DAA on two decimal digits, and the
statements. -/

namespace Sys2Proof.Machine

/-! DAA and CPL (R291, R292): the next state. -/

theorem exec_daa (s : State) :
    exec .daa s = let o := daa8 s.cpu.a s.cpu.f
      .next (s.afterAlu o.res o.z o.n o.h o.c 4) := rfl

/-- The complement is the XOR with 0xFF (R292). -/
theorem exec_cpl (s : State) :
    exec .cpl s = .next (s.afterAlu (~~~s.cpu.a) (flagZ s.cpu.f) true true (flagC s.cpu.f) 4) := by
  rw [← BitVec.xor_allOnes]
  rfl

/-- Settles O17: DAA is the one adjustment of `daa8_eq`, and the others write the flags they name. -/
theorem decimalAndFlagInstructions : Obligations.DecimalAndFlagInstructions := by
  intro s a f high low adjust res
  have hdaa : exec .daa s = .next (s.afterAlu res (res == 0) (flagN f) false high 4) := by
    rw [exec_daa, daa8_eq]
  exact ⟨hdaa, exec_cpl s, rfl, rfl, finish_eq 4 s, rfl, rfl, rfl, rfl, rfl⟩

/-! Two decimal digits under DAA (R291). -/

theorem bcd_toNat {n : Nat} (h : n < 100) : (bcd n).toNat = 16 * (n / 10) + n % 10 := by
  have htens : n / 10 % 10 = n / 10 := Nat.mod_eq_of_lt (by omega)
  rw [bcd, htens, BitVec.toNat_ofNat]
  omega

/-- What DAA adds or subtracts: 0x60 for a carry out of the tens, 0x06 for one out of the units. -/
def decimalAdjust (tens units : Bool) : Byte := (if tens then 0x60 else 0) + (if units then 0x06 else 0)

theorem decimalAdjust_toNat (tens units : Prop) [Decidable tens] [Decidable units] :
    (decimalAdjust (decide tens) (decide units)).toNat =
      (if tens then 0x60 else 0) + (if units then 0x06 else 0) := by
  by_cases ht : tens <;> by_cases hu : units <;> simp [decimalAdjust, ht, hu]

/-- The binary sum, adjusted for the carries of the decimal sum. -/
theorem bcd_add_adjust {x y : Nat} (hx : x < 100) (hy : y < 100) :
    bcd x + bcd y + decimalAdjust (decide (100 ≤ x + y)) (decide (9 < x % 10 + y % 10)) =
      bcd ((x + y) % 100) := by
  apply BitVec.eq_of_toNat_eq
  rw [BitVec.toNat_add, BitVec.toNat_add, decimalAdjust_toNat, bcd_toNat hx, bcd_toNat hy,
    bcd_toNat (Nat.mod_lt _ (by decide))]
  split_ifs <;> omega

/-- The binary difference, adjusted for the borrows of the decimal difference. -/
theorem bcd_sub_adjust {x y : Nat} (hx : x < 100) (hy : y < 100) :
    bcd x - bcd y - decimalAdjust (decide (x < y)) (decide (x % 10 < y % 10)) =
      bcd ((100 + x - y) % 100) := by
  apply BitVec.eq_of_toNat_eq
  rw [BitVec.toNat_sub, BitVec.toNat_sub, decimalAdjust_toNat, bcd_toNat hx, bcd_toNat hy,
    bcd_toNat (Nat.mod_lt _ (by decide))]
  split_ifs <;> omega

/-- After an addition, C or A > 0x99 is the carry out of the decimal tens, and H or a low nibble over 9
the carry out of the units. -/
theorem daa8_add8_bcd {x y : Nat} (hx : x < 100) (hy : y < 100) :
    let r := add8 (bcd x) (bcd y) false
    let d := daa8 r.res r.byte
    d.res = bcd ((x + y) % 100) ∧ d.c = decide (100 ≤ x + y) := by
  have hxd := bcd_toNat hx
  have hyd := bcd_toNat hy
  have hhigh : (decide ((bcd x).toNat + (bcd y).toNat > 0xFF) ||
      decide ((bcd x + bcd y).toNat > 0x99)) = decide (100 ≤ x + y) := by
    rw [← Bool.decide_or, decide_eq_decide, BitVec.toNat_add]
    omega
  have hlow : (decide ((bcd x).toNat % 16 + (bcd y).toNat % 16 > 0xF) ||
      decide ((bcd x + bcd y).toNat % 16 > 9)) = decide (9 < x % 10 + y % 10) := by
    rw [← Bool.decide_or, decide_eq_decide, BitVec.toNat_add]
    omega
  rw [← bcd_add_adjust hx hy, ← hhigh, ← hlow, add8_eq]
  simp [daa8_eq, Flagged.byte, decimalAdjust]

/-- After a subtraction, C is the borrow out of the decimal tens, and H the borrow out of the units. -/
theorem daa8_sub8_bcd {x y : Nat} (hx : x < 100) (hy : y < 100) :
    let r := sub8 (bcd x) (bcd y) false
    let d := daa8 r.res r.byte
    d.res = bcd ((100 + x - y) % 100) ∧ d.c = decide (x < y) := by
  have hxd := bcd_toNat hx
  have hyd := bcd_toNat hy
  have hhigh : decide ((bcd x).toNat < (bcd y).toNat) = decide (x < y) := by
    rw [decide_eq_decide]
    omega
  have hlow : decide ((bcd x).toNat % 16 < (bcd y).toNat % 16) = decide (x % 10 < y % 10) := by
    rw [decide_eq_decide]
    omega
  rw [← bcd_sub_adjust hx hy, ← hhigh, ← hlow, sub8_eq]
  simp [daa8_eq, Flagged.byte, decimalAdjust]

/-- DAA after an operation that stores its result adjusts that result under its flags. -/
theorem daa_after_alu {op : AluOp} {r : Reg8} {s t u : State} (hop : op ≠ .cp)
    (ht : exec (iAluReg op r) s = .next t) (hu : exec .daa t = .next u) :
    let o := alu8 op s.cpu.a (s.reg r) (flagC s.cpu.f)
    u.cpu.a = (daa8 o.res o.byte).res ∧ flagC u.cpu.f = (daa8 o.res o.byte).c := by
  rw [exec_iAluReg, aluNext, if_neg hop] at ht
  rw [exec_daa] at hu
  cases ht
  cases hu
  exact ⟨rfl, flagC_flagByte _ _ _ _⟩

/-- Settles O18: the flags of the binary operation give DAA the decimal carries, and the adjustment for
them gives the decimal digits. -/
theorem daaMakesDecimal : Obligations.DaaMakesDecimal := by
  intro s t u x y hx hy ha hb
  constructor <;> intro ht hu
  · obtain ⟨hres, hc⟩ := daa_after_alu (op := .add) (r := .b) (by decide) ht hu
    rw [hres, hc, ha, show s.reg .b = bcd y from hb]
    exact daa8_add8_bcd hx hy
  · obtain ⟨hres, hc⟩ := daa_after_alu (op := .sub) (r := .b) (by decide) ht hu
    rw [hres, hc, ha, show s.reg .b = bcd y from hb]
    exact daa8_sub8_bcd hx hy

end Sys2Proof.Machine
end

section
/-! Rotates, shifts and bits (44_cb_bitops.md): the functions bit by bit, each CB family's form and
encoding, what each shared operation does to a register and to the byte at HL, and the statements. -/

namespace Sys2Proof.Machine

/-! The bits of a shifted byte (R302), and of a byte with one bit changed (R321, R323). -/

theorem bit_shiftLeft_one (v : Byte) {i : Nat} (hi : i < 8) :
    bit (v <<< 1) i = if i = 0 then false else bit v (i - 1) := by
  rw [bit, BitVec.getLsbD_shiftLeft]
  by_cases h : i = 0
  · simp [h]
  · simp [bit, hi, h]

theorem bit_shiftRight_one (v : Byte) (i : Nat) :
    bit (v >>> 1) i = if i = 7 then false else bit v (i + 1) := by
  rw [bit, BitVec.getLsbD_ushiftRight, Nat.add_comm]
  by_cases h : i = 7
  · rw [if_pos h, h, BitVec.getLsbD_of_ge v 8 (Nat.le_refl 8)]
  · rw [if_neg h, bit]

theorem bit_mask_low (p : Bool) {i : Nat} (hi : i < 8) : bit (mask p 0x01) i = (p && decide (i = 0)) := by
  cases p
  · simp [mask, bit]
  · revert i
    decide

theorem bit_mask_high (p : Bool) {i : Nat} (hi : i < 8) : bit (mask p 0x80) i = (p && decide (i = 7)) := by
  cases p
  · simp [mask, bit]
  · revert i
    decide

theorem bit_or (v w : Byte) (i : Nat) : bit (v ||| w) i = (bit v i || bit w i) :=
  BitVec.getLsbD_or

/-- A left shift that takes `p` in at bit 0. -/
theorem bit_shiftLeft_in (v : Byte) (p : Bool) {i : Nat} (hi : i < 8) :
    bit (v <<< 1 ||| mask p 0x01) i = if i = 0 then p else bit v (i - 1) := by
  rw [bit_or, bit_shiftLeft_one v hi, bit_mask_low p hi]
  by_cases h : i = 0 <;> simp [h]

/-- A right shift that takes `p` in at bit 7. -/
theorem bit_shiftRight_in (v : Byte) (p : Bool) {i : Nat} (hi : i < 8) :
    bit (v >>> 1 ||| mask p 0x80) i = if i = 7 then p else bit v (i + 1) := by
  rw [bit_or, bit_shiftRight_one v i, bit_mask_high p hi]
  by_cases h : i = 7 <;> simp [h]

/-- Bit 7 is below bit 0 around the byte. -/
theorem bit_circular_below (v : Byte) {i : Nat} (hi : i < 8) :
    (if i = 0 then bit v 7 else bit v (i - 1)) = bit v ((i + 7) % 8) := by
  split_ifs <;> congr 1 <;> omega

/-- Bit 0 is above bit 7 around the byte. -/
theorem bit_circular_above (v : Byte) {i : Nat} (hi : i < 8) :
    (if i = 7 then bit v 0 else bit v (i + 1)) = bit v ((i + 1) % 8) := by
  split_ifs <;> congr 1 <;> omega

theorem bit_swap (v : Byte) {i : Nat} (hi : i < 8) :
    bit (v <<< 4 ||| v >>> 4) i = bit v ((i + 4) % 8) := by
  rw [bit_or, bit, bit, bit, BitVec.getLsbD_shiftLeft, BitVec.getLsbD_ushiftRight]
  by_cases h : i < 4
  · rw [Nat.mod_eq_of_lt (by omega)]
    simp [h, Nat.add_comm]
  · rw [show (i + 4) % 8 = i - 4 by omega, BitVec.getLsbD_of_ge v (4 + i) (by omega)]
    simp [h, hi]

theorem bit_one_shiftLeft (b : Nat) {i : Nat} (hi : i < 8) : bit ((1 : Byte) <<< b) i = decide (i = b) := by
  rw [show (1 : Byte) <<< b = BitVec.twoPow 8 b from (BitVec.twoPow_eq 8 b).symm, bit,
    BitVec.getLsbD_twoPow]
  by_cases h : b = i <;> simp [h, hi, eq_comm]

theorem bit_clearBit (v : Byte) (b : Nat) {i : Nat} (hi : i < 8) :
    bit (clearBit v b) i = if i = b then false else bit v i := by
  have hone : ((1 : Byte) <<< b).getLsbD i = decide (i = b) := bit_one_shiftLeft b hi
  rw [clearBit, bit, BitVec.getLsbD_and, BitVec.getLsbD_not, hone]
  by_cases h : i = b <;> simp [h, hi, bit]

theorem bit_putBit (v : Byte) (b : Nat) {i : Nat} (hi : i < 8) :
    bit (putBit v b) i = if i = b then true else bit v i := by
  rw [putBit, bit_or, bit_one_shiftLeft b hi]
  by_cases h : i = b <;> simp [h]

/-- Settles O19: a shift moves every bit by one place and takes one bit in, which is 0, the carry flag or
a bit of the byte itself. -/
theorem rotateFunctions : Obligations.RotateFunctions := by
  intro v c i hi
  refine ⟨?rlc, ?rrc, bit_shiftLeft_in v c hi, bit_shiftRight_in v c hi, bit_shiftLeft_one v hi,
    bit_shiftRight_in v (bit v 7) hi, bit_swap v hi, bit_shiftRight_one v i, ?outHigh, ?outLow, rfl⟩
  case rlc => exact (bit_shiftLeft_in v (bit v 7) hi).trans (bit_circular_below v hi)
  case rrc => exact (bit_shiftRight_in v (bit v 0) hi).trans (bit_circular_above v hi)
  case outHigh => simp [rotCarry]
  case outLow => simp [rotCarry]

/-! The families by their fields (R135, R139): a CB instruction's second byte is x, y and z. -/

theorem formOf_iCbRot (k : RotOp) (z : Operand) : formOf (iCbRot k z) = .cbRot k z := by
  cases z with
  | reg r => cases k <;> cases r <;> rfl
  | indHl => cases k <;> rfl

theorem formOf_iBit (b : Fin 8) (z : Operand) : formOf (iBit b z) = .cbBit b z := by
  cases z with
  | reg r => fin_cases b <;> cases r <;> rfl
  | indHl => fin_cases b <;> rfl

theorem formOf_iRes (b : Fin 8) (z : Operand) : formOf (iRes b z) = .cbRes b z := by
  cases z with
  | reg r => fin_cases b <;> cases r <;> rfl
  | indHl => fin_cases b <;> rfl

theorem formOf_iSet (b : Fin 8) (z : Operand) : formOf (iSet b z) = .cbSet b z := by
  cases z with
  | reg r => fin_cases b <;> cases r <;> rfl
  | indHl => fin_cases b <;> rfl

theorem encode_iCbRot (k : RotOp) (z : Operand) :
    encode (iCbRot k z) = [0xCB, BitVec.ofNat 8 (8 * rotCode k + z.code)] := by
  cases z with
  | reg r => cases k <;> cases r <;> rfl
  | indHl => cases k <;> rfl

theorem encode_iBit (b : Fin 8) (z : Operand) :
    encode (iBit b z) = [0xCB, BitVec.ofNat 8 (0x40 + 8 * b.val + z.code)] := by
  cases z with
  | reg r => fin_cases b <;> cases r <;> rfl
  | indHl => fin_cases b <;> rfl

theorem encode_iRes (b : Fin 8) (z : Operand) :
    encode (iRes b z) = [0xCB, BitVec.ofNat 8 (0x80 + 8 * b.val + z.code)] := by
  cases z with
  | reg r => fin_cases b <;> cases r <;> rfl
  | indHl => fin_cases b <;> rfl

theorem encode_iSet (b : Fin 8) (z : Operand) :
    encode (iSet b z) = [0xCB, BitVec.ofNat 8 (0xC0 + 8 * b.val + z.code)] := by
  cases z with
  | reg r => fin_cases b <;> cases r <;> rfl
  | indHl => fin_cases b <;> rfl

theorem Operand.code_reg (r : Reg8) : (Operand.reg r).code = r.code := rfl

/-- The second byte with the operand code 6, the byte at HL. -/
theorem indHl_code_add (x b : Nat) : x + 8 * b + Operand.indHl.code = x + 6 + 8 * b :=
  Nat.add_right_comm x (8 * b) 6

/-! The shared operations (R301 to R324): the next state. The read at HL leaves HL, so the write goes to
the address that was read. -/

theorem putOperand_indHl_touch (s : State) (v : Byte) :
    (s.touch s.hl).putOperand .indHl v = (s.touch s.hl).set8 s.hl v :=
  congrArg (State.set8 _ · v) (s.touch_hl s.hl)

theorem cbRotate_reg (k : RotOp) (r : Reg8) (s : State) :
    cbRotate k (.reg r) s = .next { s.setReg r (rotRes k (s.reg r) (flagC s.cpu.f)) with
      cpu.f := (rot8 k (s.reg r) (flagC s.cpu.f)).byte, cycles := 8 } := rfl

theorem cbRotate_indHl (k : RotOp) (s : State) :
    cbRotate k .indHl s =
      .next { (s.touch s.hl).set8 s.hl (rotRes k (s.peek s.hl) (flagC s.cpu.f)) with
        cpu.f := (rot8 k (s.peek s.hl) (flagC s.cpu.f)).byte, cycles := 16 } :=
  congrArg (fun t => finish 16 (State.setF t _)) (putOperand_indHl_touch s _)

theorem cbTest_reg (b : Nat) (r : Reg8) (s : State) :
    cbTest b (.reg r) s =
      .next { s with cpu.f := bitTestFlags (s.reg r) b s.cpu.f, cycles := 8 } := rfl

theorem cbTest_indHl (b : Nat) (s : State) :
    cbTest b .indHl s =
      .next { s.touch s.hl with cpu.f := bitTestFlags (s.peek s.hl) b s.cpu.f, cycles := 12 } := rfl

theorem cbReset_indHl (b : Nat) (s : State) :
    cbReset b .indHl s =
      .next { (s.touch s.hl).set8 s.hl (clearBit (s.peek s.hl) b) with cycles := 16 } :=
  congrArg (finish 16) (putOperand_indHl_touch s _)

theorem cbSet_indHl (b : Nat) (s : State) :
    cbSet b .indHl s =
      .next { (s.touch s.hl).set8 s.hl (putBit (s.peek s.hl) b) with cycles := 16 } :=
  congrArg (finish 16) (putOperand_indHl_touch s _)

/-- Settles O21: the function of R302 on the register, with F written last. -/
theorem cbRotateRegister : Obligations.CbRotateRegister := by
  intro s k r res
  rw [exec_eq_runForm, formOf_iCbRot]
  exact ⟨encode_iCbRot k (.reg r), cbRotate_reg k r s⟩

/-- Settles O22: the byte is written where it was read. -/
theorem cbRotateMemory : Obligations.CbRotateMemory := by
  intro s k m res
  rw [exec_eq_runForm, formOf_iCbRot]
  exact ⟨encode_iCbRot k .indHl, cbRotate_indHl k s⟩

/-- Settles O23: F alone is written, with C from the old F. -/
theorem bitTest : Obligations.BitTest := by
  intro s b r
  simp only [exec_eq_runForm, formOf_iBit, encode_iBit, Operand.code_reg, indHl_code_add,
    Nat.reduceAdd, true_and]
  exact ⟨cbTest_reg b r s, cbTest_indHl b s⟩

/-- Settles O24: bit b and no other, written back to the register or to the address that was read. -/
theorem resAndSet : Obligations.ResAndSet := by
  intro s b r v i
  simp only [exec_eq_runForm, formOf_iRes, formOf_iSet, encode_iRes, encode_iSet,
    Operand.code_reg, indHl_code_add, Nat.reduceAdd, and_true]
  exact ⟨bit_clearBit v b, bit_putBit v b, finish_eq 8 _, finish_eq 8 _, cbReset_indHl b s,
    cbSet_indHl b s⟩

end Sys2Proof.Machine
end

section
/-! Rotates of A (45_rotate_a.md): what the shared operation does, and the statement. The statement's
theorem has the name of the shared operation, so this part has a namespace beside the model's. -/

namespace Sys2Proof.Rotates

open Sys2Proof.Machine

/-- The rotate of R302 on A, with Z forced to 0 (R331 to R334). -/
theorem rotateA_eq (k : RotOp) (s : State) :
    rotateA k s = .next (s.afterAlu (rotRes k s.cpu.a (flagC s.cpu.f)) false false false
      (rotCarry k s.cpu.a) 4) := rfl

/-- Settles O20: the form of each of the four is a rotate of A, and one equation says what that does. -/
theorem rotateA : Obligations.RotateA := by
  intro s res
  have hexec {i : Instr} {k : RotOp} (hform : formOf i = .rotA k) : exec i s = res k := by
    rw [exec_eq_runForm, hform]
    exact rotateA_eq k s
  exact ⟨hexec rfl, hexec rfl, hexec rfl, hexec rfl, rfl, rfl, rfl, rfl⟩

end Sys2Proof.Rotates
end

section
/-! The jumps, calls, returns and the stack (46_control.md): each family's form and encoding, what each
shared operation does, and the statements. -/

namespace Sys2Proof.Machine

/-! The families by their fields (R136 to R138, R344 to R355). -/

theorem formOf_iJpIf (cc : Cond) (nn : Word) : formOf (iJpIf cc nn) = .jpIf cc nn := by
  cases cc <;> rfl

theorem formOf_iJrIf (cc : Cond) (e : Byte) : formOf (iJrIf cc e) = .jrIf cc e := by
  cases cc <;> rfl

theorem formOf_iCallIf (cc : Cond) (nn : Word) : formOf (iCallIf cc nn) = .callIf cc nn := by
  cases cc <;> rfl

theorem formOf_iRetIf (cc : Cond) : formOf (iRetIf cc) = .retIf cc := by
  cases cc <;> rfl

theorem formOf_iRst (y : Fin 8) : formOf (iRst y) = .rst y := by
  fin_cases y <;> rfl

theorem formOf_iPush (p : StackPair) : formOf (iPush p) = .push p := by
  cases p <;> rfl

theorem formOf_iPop (p : StackPair) : formOf (iPop p) = .pop p := by
  cases p <;> rfl

theorem encode_iJpIf (cc : Cond) (nn : Word) :
    encode (iJpIf cc nn) = [BitVec.ofNat 8 (0xC2 + 8 * cc.code), lo nn, hi nn] := by
  cases cc <;> rfl

theorem encode_iJrIf (cc : Cond) (e : Byte) :
    encode (iJrIf cc e) = [BitVec.ofNat 8 (0x20 + 8 * cc.code), e] := by
  cases cc <;> rfl

theorem encode_iCallIf (cc : Cond) (nn : Word) :
    encode (iCallIf cc nn) = [BitVec.ofNat 8 (0xC4 + 8 * cc.code), lo nn, hi nn] := by
  cases cc <;> rfl

theorem encode_iRetIf (cc : Cond) : encode (iRetIf cc) = [BitVec.ofNat 8 (0xC0 + 8 * cc.code)] := by
  cases cc <;> rfl

theorem encode_iRst (y : Fin 8) : encode (iRst y) = [BitVec.ofNat 8 (0xC7 + 8 * y.val)] := by
  fin_cases y <;> rfl

theorem encode_iPush (p : StackPair) : encode (iPush p) = [BitVec.ofNat 8 (0xC5 + 16 * p.code)] := by
  cases p <;> rfl

theorem encode_iPop (p : StackPair) : encode (iPop p) = [BitVec.ofNat 8 (0xC1 + 16 * p.code)] := by
  cases p <;> rfl

/-! The shared operations (R343 to R355): the next state. A call's stores come between the change of SP
and that of PC; they reach neither. -/

theorem jumpIf_eq (cc : Cond) (nn : Word) (s : State) :
    jumpIf cc nn s = if s.cond cc then .next { s with cpu.pc := nn, cycles := 16 }
      else .next { s with cycles := 12 } := rfl

theorem jumpRelIf_eq (cc : Cond) (e : Byte) (s : State) :
    jumpRelIf cc e s = if s.cond cc then
        .next { s with cpu.pc := s.cpu.pc + e.signExtend 16, cycles := 12 }
      else .next { s with cycles := 8 } := rfl

/-- The stores of a push leave SP at the address of the lower byte (R342). -/
theorem State.setSp_push16 (s : State) (v : Word) :
    (s.push16 v).setSp (s.cpu.sp - 2) = s.push16 v := by
  rw [State.setSp, push16_cpu, ← push16_cpu s v]

theorem finish_push16_setPc (dots : Nat) (v a : Word) (s : State) :
    finish dots ((s.push16 v).setPc a) =
      .next { ({ s with cpu.sp := s.cpu.sp - 2 }.set8 (s.cpu.sp - 2) (lo v)).set8
          (s.cpu.sp - 2 + 1) (hi v) with
        cpu.pc := a, cpu.sp := s.cpu.sp - 2, cycles := dots } := by
  rw [← s.setSp_push16 v]
  simp only [finish_eq, State.setPc, State.setSp, State.push16, State.set16]

theorem finish_pop16_setPc (dots : Nat) (s : State) :
    finish dots (s.pop16.2.setPc s.pop16.1) =
      .next { (s.touch s.cpu.sp).touch (s.cpu.sp + 1) with
        cpu.pc := (s.touch s.cpu.sp).peek (s.cpu.sp + 1) ++ s.peek s.cpu.sp,
        cpu.sp := s.cpu.sp + 2, cycles := dots } := by
  simp only [finish_eq, State.pop16_eq, State.setPc, State.setSp, word]

theorem retFromInterrupt_eq (s : State) :
    retFromInterrupt s =
      .next { (s.touch s.cpu.sp).touch (s.cpu.sp + 1) with
        cpu.pc := (s.touch s.cpu.sp).peek (s.cpu.sp + 1) ++ s.peek s.cpu.sp,
        cpu.sp := s.cpu.sp + 2, cpu.ime := true, cpu.imeSched := 0, cycles := 16 } := by
  simp only [retFromInterrupt, State.returnFromInterrupt, finish_eq, State.pop16_eq, State.setPc,
    State.setSp, word]

theorem pushPair_eq (p : StackPair) (s : State) :
    pushPair p s =
      .next { ({ s with cpu.sp := s.cpu.sp - 2 }.set8 (s.cpu.sp - 2) (lo (s.stackPair p))).set8
          (s.cpu.sp - 2 + 1) (hi (s.stackPair p)) with
        cpu.sp := s.cpu.sp - 2, cycles := 16 } := by
  rw [pushPair, ← s.setSp_push16 (s.stackPair p)]
  simp only [finish_eq, State.setSp, State.push16, State.set16]

theorem popPair_eq (p : StackPair) (s : State) :
    popPair p s = .next { s.pop16.2.setStackPair p s.pop16.1 with cycles := 12 } := rfl

theorem word_and (h l h' l' : Byte) : word h l &&& word h' l' = word (h &&& h') (l &&& l') :=
  BitVec.and_append

/-- A stack pair reads back what was written to it, AF without the low nibble of F (R355). -/
theorem stackPair_setStackPair (s : State) (p : StackPair) (w : Word) :
    (s.setStackPair p w).stackPair p = if p = .af then w &&& 0xFFF0 else w := by
  cases p with
  | bc => exact s.pair_setPair_same .bc w
  | de => exact s.pair_setPair_same .de w
  | hl => exact s.pair_setPair_same .hl w
  | af =>
    calc word (hi w) (lo w &&& 0xF0)
      _ = word (hi w) (lo w) &&& word 0xFF 0xF0 := by
        rw [word_and, show (0xFF : Byte) = BitVec.allOnes 8 from rfl, BitVec.and_allOnes]
      _ = w &&& 0xFFF0 := by rw [word_hi_lo]; rfl

/-- Settles O25: the condition is a flag or its complement, and a jump writes PC alone. -/
theorem jumps : Obligations.Jumps := by
  intro s cc nn e jumped
  simp only [exec_eq_runForm (iJpIf cc nn), exec_eq_runForm (iJrIf cc e), formOf_iJpIf, formOf_iJrIf]
  exact ⟨rfl, rfl, rfl, rfl, rfl, jumpIf_eq cc nn s, rfl, rfl, jumpRelIf_eq cc e s, rfl, rfl, rfl,
    encode_iJpIf cc nn, encode_iJrIf cc e⟩

/-- Settles O26: all three push the PC past the instruction, then write PC. -/
theorem calls : Obligations.Calls := by
  intro s cc y nn sp called
  have hcalled (a : Word) (dots : Nat) : finish dots ((s.push16 s.cpu.pc).setPc a) = called a dots :=
    finish_push16_setPc dots s.cpu.pc a s
  rw [exec_eq_runForm (iCallIf cc nn), formOf_iCallIf, exec_eq_runForm (iRst y), formOf_iRst,
    ← hcalled nn 24, ← hcalled _ 16]
  exact ⟨rfl, rfl, rfl, rfl, encode_iCallIf cc nn, encode_iRst y⟩

/-- Settles O27: all three pop PC. -/
theorem returns : Obligations.Returns := by
  intro s cc t u back returned
  have hreturned (dots : Nat) : finish dots (s.pop16.2.setPc s.pop16.1) = .next (returned dots) :=
    finish_pop16_setPc dots s
  rw [exec_eq_runForm (iRetIf cc), formOf_iRetIf, ← hreturned 16, ← hreturned 20]
  exact ⟨rfl, rfl, retFromInterrupt_eq s, rfl, rfl, encode_iRetIf cc⟩

/-- Settles O28: a push is two stores below SP, a pop two reads from SP on. -/
theorem pushAndPop : Obligations.PushAndPop := by
  intro s p sp v t w
  simp only [exec_eq_runForm, formOf_iPush, formOf_iPop]
  exact ⟨pushPair_eq p s, popPair_eq p s, stackPair_setStackPair s p w, encode_iPush p, encode_iPop p⟩

end Sys2Proof.Machine
end

section
/-! A pop after a push (R355): a word stored in plain memory is read back, since its two bytes stand in two
places. -/

namespace Sys2Proof.Machine

/-- Neighbours stand in two places: two addresses of one place in storage are equal or, where one is in
echo RAM, 0x2000 apart (R84, R92). -/
theorem route_add_one_ne {a : Word} (h : (route a).storage = true) : route (a + 1) ≠ route a := by
  intro hsame
  cases hroute : route a with
  | cart n =>
    have := route_cart hroute
    have := route_cart (hsame.trans hroute)
    bv_omega
  | vram n =>
    have := route_vram hroute
    have := route_vram (hsame.trans hroute)
    bv_omega
  | wram n =>
    have := route_wram hroute
    have := route_wram (hsame.trans hroute)
    bv_omega
  | oam n =>
    have := route_oam hroute
    have := route_oam (hsame.trans hroute)
    bv_omega
  | hram n =>
    have := route_hram hroute
    have := route_hram (hsame.trans hroute)
    bv_omega
  | unmapped | io q | irqEnable =>
    rw [hroute] at h
    cases h

/-- An address of the block's own memory: a store there is kept, and a read draws nothing (R84, R91 to R93, R96). -/
def plain (a : Word) : Prop := (route a).storage = true ∧ ∀ n, route a ≠ .cart n

theorem touch_plain (s : State) {a : Word} (h : plain a) : s.touch a = s := by
  obtain ⟨hstorage, hcart⟩ := h
  refine s.touch_of_not_draws a (Bool.eq_false_iff.mpr fun hdraws => ?_)
  obtain ⟨n, hn⟩ | ⟨-, n, hn⟩ := (drawsAt_iff s (route a)).mp hdraws
  · exact storage_ne_io hstorage _ hn
  · exact hcart n hn

theorem peek_set8_plain (s : State) {a : Word} (v : Byte) (hok : s.memOk) (h : plain a) :
    (s.set8 a v).peek a = v :=
  peek_set8_same s a v hok h.1 fun n hn => absurd hn (h.2 n)

theorem peek_set8_plain_other (s : State) {a b : Word} (v : Byte) (h : plain a)
    (hne : route b ≠ route a) : (s.set8 a v).peek b = s.peek b :=
  peek_set8_other s a b v (storage_ne_io h.1) (fun n hn => absurd hn (h.2 n)) hne

theorem set8_plain_memOk (s : State) {a : Word} (v : Byte) (hok : s.memOk) (h : plain a) :
    (s.set8 a v).memOk := by
  rw [State.set8_of_not_io s a v (storage_ne_io h.1)]
  exact writeMem_memOk s v a hok

/-- The two bytes of a word stored in plain memory (R87). -/
theorem peek_set16_plain (s : State) {a : Word} (v : Word) (hok : s.memOk) (hlow : plain a)
    (hhigh : plain (a + 1)) :
    (s.set16 a v).peek a = lo v ∧ (s.set16 a v).peek (a + 1) = hi v := by
  refine ⟨?_, peek_set8_plain _ _ (set8_plain_memOk s _ hok hlow) hhigh⟩
  rw [State.set16, peek_set8_plain_other _ _ hhigh (route_add_one_ne hlow.1).symm]
  exact peek_set8_plain s _ hok hlow

/-- A pop from plain memory changes SP alone. -/
theorem pop16_plain (s : State) (hlow : plain s.cpu.sp) (hhigh : plain (s.cpu.sp + 1)) :
    s.pop16 = (word (s.peek (s.cpu.sp + 1)) (s.peek s.cpu.sp), s.setSp (s.cpu.sp + 2)) := by
  rw [State.pop16_eq, touch_plain s hlow, touch_plain s hhigh]

/-- What a pop finds after a PUSH to plain memory: the pair pushed, and SP as it was (R354). -/
theorem pop16_of_pushPair {s t : State} {p : StackPair} (hok : s.memOk) (hlow : plain (s.cpu.sp - 2))
    (hhigh : plain (s.cpu.sp - 2 + 1)) (hpush : pushPair p s = .next t) :
    t.pop16 = (s.stackPair p, t.setSp s.cpu.sp) := by
  have hread (a : Word) :
      t.peek a = ((s.setSp (s.cpu.sp - 2)).set16 (s.cpu.sp - 2) (s.stackPair p)).peek a := by
    cases hpush
    exact State.peek_cpu _ _ 16 a
  have hsp : t.cpu.sp = s.cpu.sp - 2 := by
    cases hpush
    exact congrArg Cpu.sp (push16_cpu s _)
  obtain ⟨hreadLow, hreadHigh⟩ :=
    peek_set16_plain (s.setSp (s.cpu.sp - 2)) (s.stackPair p) hok hlow hhigh
  rw [pop16_plain t (hsp ▸ hlow) (hsp ▸ hhigh), hsp, hread, hread, hreadLow, hreadHigh, word_hi_lo,
    BitVec.sub_add_cancel]

/-- Settles O29: the two bytes pushed are read back in the order in which they are popped. -/
theorem popAfterPush : Obligations.PopAfterPush := by
  intro s t p q hok hplain hpush
  have hlow : plain (s.cpu.sp - 2) := hplain _ (by simp [wordAt])
  have hhigh : plain (s.cpu.sp - 2 + 1) := hplain _ (by simp [wordAt])
  rw [exec_eq_runForm, formOf_iPush] at hpush
  have hpop := pop16_of_pushPair hok hlow hhigh hpush
  rw [exec_eq_runForm, formOf_iPop]
  refine ⟨_, popPair_eq q t, ?_⟩
  rw [hpop]
  exact ⟨State.setStackPair_cpu_sp _ _ _, stackPair_setStackPair _ q _, State.setStackPair_mem _ _ _⟩

end Sys2Proof.Machine
end

section
/-! The step (47_system.md): the CB prefix, EI, DI, HALT, STOP and the bytes with no instruction, the
fetch, interrupt entry, the EI delay, and that a step always answers. -/

namespace Sys2Proof.Machine

/-! The CB prefix (R373). -/

/-- No CB form refuses. -/
theorem runForm_cbForm_completes (op2 : Byte) (s : State) : ∃ t, runForm (cbForm op2) s = .next t := by
  unfold cbForm
  generalize op2.extractLsb' 6 2 = x
  match x with
  | 0 | 1 | 2 | 3 => exact ⟨_, rfl⟩

/-- Settles O5: the CB instruction completes, and the prefix runs it. -/
theorem prefixRunsCbInstruction : Obligations.PrefixRunsCbInstruction := by
  intro op2 s
  obtain ⟨t, ht⟩ := runForm_cbForm_completes op2 s
  have hcb : exec (decodeCb op2) s = .next t := by rw [exec_eq_runForm, formOf_decodeCb, ht]
  exact ⟨t, (execPrefixCb_eq op2 s).trans hcb, hcb⟩

/-! EI, DI, HALT, STOP and the bytes with no instruction (R374 to R378). -/

theorem suspend_eq (s : State) :
    suspend s = if s.params.haltBug = true ∧ s.cpu.ime = false ∧ s.irq.enable &&& s.irq.flags ≠ 0 then
        .next { s with cpu.holdPc := true, cycles := 4 }
      else .next { s with cpu.halted := true, cycles := 4 } := by
  simp [suspend, State.pend, and_assoc]

/-- Settles O30: EI and DI as they stand, HALT by the condition of the HALT bug. -/
theorem interruptControl : Obligations.InterruptControl := fun s =>
  ⟨rfl, rfl, fun h => (suspend_eq s).trans (if_neg h), fun h => (suspend_eq s).trans (if_pos h), rfl,
    rfl, rfl⟩

theorem formOf_iIllegal (y : Fin 11) : formOf (iIllegal y) = .illegal (illegalBytes.getD y.val 0) := by
  fin_cases y <;> rfl

theorem encode_iIllegal (y : Fin 11) : encode (iIllegal y) = [illegalBytes.getD y.val 0] := by
  fin_cases y <;> rfl

theorem stop_eq (s : State) :
    stop s = if s.params.stopMode = .nop then .next { s with cycles := 4 }
      else .refused .stopRefused := by
  unfold stop
  cases s.params.stopMode <;> rfl

theorem illegal_eq (op : Byte) (s : State) :
    illegal op s = if s.params.illegalMode = .nop then .next { s with cycles := s.params.illegalCycles }
      else .refused (.illegalOpcode op) := by
  unfold illegal
  cases s.params.illegalMode <;> rfl

/-- Settles O31: each answers by its own mode parameter. -/
theorem stopAndIllegal : Obligations.StopAndIllegal := by
  intro s skipped y
  have hstop : exec (.stop skipped) s = _ := stop_eq s
  rw [exec_eq_runForm (iIllegal y), formOf_iIllegal, hstop, runForm, illegal_eq]
  refine ⟨fun h => by rw [h]; rfl, fun h => by rw [h]; rfl, fun h => by rw [h]; rfl,
    fun h => by rw [h]; rfl, rfl, encode_iIllegal y, rfl⟩

/-! The fetch (R88, R372, R373). -/

theorem takeBytes_length (n : Nat) (s : State) : (State.takeBytes n s).1.length = n := by
  induction n generalizing s with
  | zero => rfl
  | succ n ih => exact congrArg (· + 1) (ih s.fetch8.2)

/-- Taking bytes moves PC past them and draws from devices at most (R37, R88). -/
theorem takeBytes_state (n : Nat) (s : State) :
    ∃ draws, (State.takeBytes n s).2 =
      { s with cpu.pc := s.cpu.pc + BitVec.ofNat 16 n, env.draws := draws } := by
  induction n generalizing s with
  | zero => exact ⟨s.env.draws, by simp [State.takeBytes]⟩
  | succ n ih =>
    have hpc : s.cpu.pc + 1 + BitVec.ofNat 16 n = s.cpu.pc + BitVec.ofNat 16 (n + 1) := by
      rw [BitVec.add_assoc, Nat.add_comm n 1, BitVec.ofNat_add]
      rfl
    have hfetch : s.fetch8.2 = { s.touch s.cpu.pc with cpu.pc := s.cpu.pc + 1 } := rfl
    obtain ⟨draws, hrest⟩ := ih s.fetch8.2
    refine ⟨draws, hrest.trans ?_⟩
    rw [hfetch, State.touch_eq, ← hpc]

/-- The opcode and the bytes after it run as the instruction they decode to. -/
theorem execute_of_decode {s t u : State} {op : Byte} {bytes : List Byte} {n : Nat} {i : Instr}
    (hop : s.fetchOpcode = (op, t)) (hbytes : State.takeBytes n t = (bytes, u))
    (hdecode : decode (op :: bytes) = .ok (i, [])) : s.execute = exec i u := by
  have hlen : bytes.length = n := by
    have := takeBytes_length n t
    rwa [hbytes] at this
  subst hlen
  unfold State.execute
  rw [hop]
  dsimp only
  simp only [decode] at hdecode
  cases hfmt : decodeOp op with
  | op j =>
    rw [hfmt] at hdecode
    cases hdecode
    cases hbytes
    rfl
  | imm8 _ | cbPrefix =>
    rw [hfmt] at hdecode
    match bytes with
    | [] => cases hdecode
    | x :: rest =>
      cases hdecode
      cases hbytes
      rfl
  | imm16 f =>
    rw [hfmt] at hdecode
    match bytes with
    | [] | [_] => cases hdecode
    | l :: h :: rest =>
      cases hdecode
      cases hbytes
      rfl

/-- Where neither an idle halt nor an interrupt entry comes first, a step executes (R371), and ends with
the count-down, the tick and the posts (R379, R390). -/
theorem step_of_execute {s u : State} {i : Instr} (hs : s.executes)
    (hexec : { s with cpu.halted := false }.execute = exec i u) : step s = runFetched i u := by
  obtain ⟨hawake, hnone⟩ := hs
  have hidle : ¬(s.cpu.halted && s.pend == 0) = true := by simpa using hawake
  have hdue : ¬(s.cpu.ime && s.pend != 0) = true := by simpa using hnone
  simp only [step, State.turn, State.cpuStep, if_neg hidle, if_neg hdue, hexec, runFetched]
  cases exec i u with
  | next v =>
    have hcycles : v.countDown.cycles = v.cycles := by rw [countDown_eq]
    simp only [afterInstruction, State.drive, hcycles]
  | fault r => rfl
  | refused r => rfl

/-- With no double fetch pending, the first byte of an instruction is its opcode, and PC moves on. -/
theorem execute_of_takeBytes {s t : State} {n : Nat} {bytes : List Byte} {i : Instr}
    (hhold : s.cpu.holdPc = false) (hbytes : State.takeBytes n s = (bytes, t))
    (hdecode : decode bytes = .ok (i, [])) : s.execute = exec i t := by
  match n with
  | 0 =>
    cases hbytes
    cases hdecode
  | n + 1 =>
    cases hbytes
    refine execute_of_decode (t := s.fetch8.2) (n := n) ?_ rfl hdecode
    simp only [State.fetchOpcode, hhold]
    rfl

/-- The opcode fetch of a CPU just woken, after a HALT with the HALT bug: PC stays (R376). -/
theorem fetchOpcode_hold {s : State} (hhold : s.cpu.holdPc = true) :
    State.fetchOpcode { s with cpu.halted := false } =
      (s.peek s.cpu.pc, { s.touch s.cpu.pc with cpu.halted := false, cpu.holdPc := false }) := by
  have hpeek := State.peek_cpu s { s.cpu with halted := false } s.cycles s.cpu.pc
  have htouch : State.touch { s with cpu.halted := false } s.cpu.pc = _ :=
    State.touch_cpu_comm s { s.cpu with halted := false } s.cycles s.cpu.pc
  rw [State.fetchOpcode, if_pos (by exact hhold)]
  refine Prod.ext hpeek ?_
  simp only [State.get8, htouch, State.touch_cpu, State.touch_cycles]

/-- Settles O32: the bytes taken are those the CPU fetches, with PC held once after the HALT bug. -/
theorem stepRunsDecoded : Obligations.StepRunsDecoded := by
  intro s t n bytes i hs
  refine ⟨fun hhold hbytes hdecode => ⟨?_, ?_⟩, fun hhold hbytes hdecode => ?_⟩
  · exact step_of_execute hs (execute_of_takeBytes hhold hbytes hdecode)
  · obtain ⟨draws, hstate⟩ := takeBytes_state n { s with cpu.halted := false }
    rw [hbytes] at hstate
    subst hstate
    rfl
  · exact step_of_execute hs (execute_of_decode (fetchOpcode_hold hhold) hbytes hdecode)

/-! An idle halted step, the posts and interrupt entry (R371, R504 to R508). -/

/-- The three bits of a post stand at IF bits 4 to 2 (R504). -/
theorem post_bits (p : BitVec 3) : p.setWidth 5 <<< 2 = p ++ (0 : BitVec 2) := by
  revert p
  decide

/-- Settles O33: the idle step adds the driver's work only, which ends with the posts. -/
theorem haltedStepIsIdle : Obligations.HaltedStepIsIdle := by
  intro s p rest
  refine ⟨fun hhalted hpend => ?_, fun hposts => ?_, fun hposts => ?_⟩
  · have hidle : (s.cpu.halted && s.pend == 0) = true := by simp [hhalted, State.pend, hpend]
    simp only [step, State.turn, State.cpuStep, if_pos hidle, finish_eq, State.drive]
  · simp only [State.takePosts, hposts, post_bits]
  · simp only [State.takePosts, hposts]

/-- The lowest set bit of a request that is not zero (R508). -/
theorem lowestSet_spec (p : BitVec 5) (h : p ≠ 0) :
    lowestSet p < 5 ∧ p.getLsbD (lowestSet p) = true ∧ ∀ j < lowestSet p, p.getLsbD j = false := by
  revert p
  decide

/-- The registers of an interrupt entry may be written before its two stores (R507). -/
theorem enterInterrupt_stores (s : State) (k : Nat) :
    s.enterInterrupt k =
      (({ s with irq.flags := s.irq.flags &&& ~~~((1 : BitVec 5) <<< k), cycles := 20,
                 cpu := { s.cpu with ime := false, imeSched := 0, sp := s.cpu.sp - 2, pc := vector k }
            }.set8 (s.cpu.sp - 2) (lo s.cpu.pc)).set8 (s.cpu.sp - 2 + 1) (hi s.cpu.pc)) := by
  rw [State.enterInterrupt_eq, ← State.set8_cpu_comm, ← State.set8_cpu_comm]

theorem vector_eq (k : Nat) (h : k < 5) : vector k = BitVec.ofNat 16 (0x40 + 8 * k) := by
  interval_cases k <;> rfl

/-- Settles O34: the entry is for the lowest bit pending, and its count is 20. -/
theorem interruptEntry : Obligations.InterruptEntry := by
  intro s hime hpend
  change s.pend ≠ 0 at hpend
  obtain ⟨hlt, hset, hlower⟩ := lowestSet_spec s.pend hpend
  refine ⟨lowestSet s.pend, hlt, hset, hlower, ?_⟩
  have hidle : ¬(s.cpu.halted && s.pend == 0) = true := fun h =>
    hpend (eq_of_beq (Bool.and_eq_true_iff.mp h).2)
  have hdue : (s.cpu.ime && s.pend != 0) = true := by simpa [hime] using hpend
  simp only [step, State.turn, State.cpuStep, if_neg hidle, if_pos hdue, State.drive]
  rw [enterInterrupt_stores, State.set8_cycles, State.set8_cycles, vector_eq _ hlt]

/-! The EI delay (R374, R379). -/

/-- An executed instruction ends with the count-down; the driver does not touch the CPU. -/
theorem runFetched_cpu {i : Instr} {s u : State} (h : runFetched i s = .next u) :
    ∃ v, exec i s = .next v ∧ u.cpu = v.countDown.cpu := by
  unfold runFetched at h
  cases hv : exec i s with
  | next v =>
    rw [hv] at h
    cases h
    exact ⟨v, rfl, by rw [State.takePosts_eq]; exact State.tick_cpu _ _⟩
  | fault r => nomatch r
  | refused r =>
    rw [hv] at h
    cases h

theorem countDown_ime (s : State) : s.countDown.cpu.ime = (s.cpu.ime || s.cpu.imeSched == 1) := by
  rw [countDown_eq]

theorem countDown_imeSched (s : State) :
    s.countDown.cpu.imeSched = if s.cpu.imeSched = 2 then 1 else 0 := by rw [countDown_eq]

/-- Settles O35: the count-down after the instruction, which only EI, DI and RETI change before it. -/
theorem eiTakesEffectAfterNext : Obligations.EiTakesEffectAfterNext := by
  intro s t u n bytes i hs hhold hbytes hdecode hstep
  obtain ⟨hrun, ht⟩ := (stepRunsDecoded s t n bytes i hs).1 hhold hbytes hdecode
  rw [hrun] at hstep
  obtain ⟨v, hexec, hu⟩ := runFetched_cpu hstep
  have htime : t.cpu.ime = s.cpu.ime := by rw [ht]
  have htsched : t.cpu.imeSched = s.cpu.imeSched := by rw [ht]
  rw [hu, countDown_ime, countDown_imeSched]
  refine ⟨?ei, ?di, ?reti, fun nei ndi nreti => ?other⟩
  case ei =>
    rintro rfl
    cases hexec
    simp [htime]
  case di =>
    rintro rfl
    cases hexec
    simp
  case reti =>
    rintro rfl
    have hreti : exec .reti t = _ := retFromInterrupt_eq t
    cases hreti.symm.trans hexec
    simp
  case other =>
    obtain ⟨-, -, -, hime, hsched, -⟩ := controlRegistersFrame i t v hexec
    rw [hime ndi nreti, hsched nei ndi nreti, htime, htsched]
    refine ⟨fun h => ?_, fun h => ?_, fun h => ?_⟩ <;> simp [h]

/-! A step is total (R371, R380, R501). -/

/-- The only forms that are illegal bytes are those of the eleven of R378. -/
theorem unprefixed_illegal (i : Instr) (op : Byte) (h : (formOf i).unprefixed = .illegal op) :
    op ∈ illegalBytes := by
  cases i with
  | prefixCb op2 =>
    have hcb : cbForm op2 = .illegal op := (formOf_decodeCb op2).symm.trans h
    obtain ⟨t, ht⟩ := runForm_cbForm_completes op2 { State.reset with params.illegalMode := .refuse }
    rw [hcb] at ht
    cases ht
  | _ => cases h <;> decide

/-- What an instruction refuses, and only when a parameter asks for it (R377, R378). -/
def RefusedBy (p : Params) (r : Refusal) : Prop :=
  r = .stopRefused ∧ p.stopMode = .refuse ∨
    (∃ op ∈ illegalBytes, r = .illegalOpcode op) ∧ p.illegalMode = .refuse

theorem exec_answers (i : Instr) (s : State) :
    (∃ t, exec i s = .next t) ∨ ∃ r, RefusedBy s.params r ∧ exec i s = .refused r := by
  rw [exec_eq_unprefixed]
  obtain h | ⟨-, hmode, h⟩ | ⟨op, hform, hmode, h⟩ :=
    runForm_answers (formOf i).unprefixed s (unprefixed_ne_prefixed _)
  · exact .inl h
  · exact .inr ⟨_, .inl ⟨rfl, hmode⟩, h⟩
  · exact .inr ⟨_, .inr ⟨⟨op, unprefixed_illegal i op hform, rfl⟩, hmode⟩, h⟩

theorem step_answers (s : State) :
    (∃ t, step s = .next t) ∨ ∃ r, RefusedBy s.params r ∧ step s = .refused r := by
  unfold step State.turn State.cpuStep
  split_ifs with hidle hdue
  · exact .inl ⟨_, rfl⟩
  · exact .inl ⟨_, rfl⟩
  · obtain ⟨i, u, pc, hquiet, -, hexec⟩ := execute_cases { s with cpu.halted := false }
    dsimp only
    rw [hexec]
    obtain ⟨v, hv⟩ | ⟨r, hr, hv⟩ := exec_answers i u
    · exact .inl ⟨_, by rw [hv]; rfl⟩
    · rw [hquiet.params] at hr
      exact .inr ⟨r, hr, by rw [hv]; rfl⟩

/-- The dots of a CPU step: 4, 20, or those of an instruction (R380). -/
theorem cpuStep_dots {s t : State} (h : s.cpuStep = .next t) :
    t.cycles = s.params.illegalCycles ∨ 0 < t.cycles ∧ 4 ∣ t.cycles := by
  obtain ⟨-, -, rfl⟩ | ⟨-, -, rfl⟩ | ⟨-, i, u, v, pc, hquiet, -, hexec, rfl⟩ := cpuStep_cases h
  · exact .inr (by simp)
  · exact .inr (by simp [State.enterInterrupt])
  · rw [exec_eq_unprefixed] at hexec
    have hdots := runForm_dots _ u v (unprefixed_ne_prefixed _) hexec
    rw [hquiet.params] at hdots
    rwa [countDown_eq]

/-- Settles O36: every branch of a step answers, and each has its own dots. -/
theorem stepIsTotal : Obligations.StepIsTotal := by
  intro s
  refine ⟨?next, ?dots, (nomatch ·), ?refused⟩
  case next =>
    rintro ⟨hillegal, hstop⟩
    obtain h | ⟨r, ⟨-, hr⟩ | ⟨-, hr⟩, -⟩ := step_answers s
    · exact h
    · cases hstop.symm.trans hr
    · cases hillegal.symm.trans hr
  case dots =>
    intro t h hpos hdvd
    obtain hcycles | hcycles := cpuStep_dots h
    · exact hcycles ▸ ⟨hpos, hdvd⟩
    · exact hcycles
  case refused =>
    intro r h
    obtain ⟨t, ht⟩ | ⟨q, hq, hstep⟩ := step_answers s
    · cases ht.symm.trans h
    · cases hstep.symm.trans h
      exact hq

end Sys2Proof.Machine
end

section
/-! The I/O registers (R44 to R57, R410 to R414, R445 to R447, R476): what a read of each gives and a
write stores. -/

namespace Sys2Proof.Machine

/-! An address that the block owns goes to its register (R95). -/

theorem peek_owned (s : State) (r : IoReg) {a : Word} (h : (a, r) ∈ ownedRegs) :
    s.peek a = s.readIo r := by
  rw [State.peek, route_owned _ h, State.readRegion]

theorem set8_owned (s : State) (v : Byte) (r : IoReg) {a : Word} (h : (a, r) ∈ ownedRegs) :
    s.set8 a v = s.writeIo v r := by
  rw [State.set8, route_owned _ h, State.writeRegion]

theorem touch_owned (s : State) (r : IoReg) {a : Word} (h : (a, r) ∈ ownedRegs) : s.touch a = s := by
  refine s.touch_of_not_draws a ?_
  have hblock : ∀ p ∈ ownedRegs, s.drawsAt (.io p.2) = false := by simp [ownedRegs, State.drawsAt]
  rw [route_owned _ h]
  exact hblock _ h

theorem route_FFFF : route 0xFFFF = .irqEnable := by decide

/-! IF and IE keep five bits of a byte; the others read `UNUSED_BIT` (R44, R45, R502). -/

theorem setWidth_five (v : Byte) : v.setWidth 5 = v.extractLsb' 0 5 :=
  BitVec.setWidth_eq_extractLsb' (by decide)

theorem readFive (u : Bool) (v : Byte) :
    mask u 0xE0 ||| (v.setWidth 5).setWidth 8 = (if u then 0xE0 else 0) ||| (v &&& 0x1F) := by
  have hlow : (v.setWidth 5).setWidth 8 = v &&& 0x1F := by
    revert v
    decide
  rw [hlow, mask]

/-- A read of STAT is the sum of its fields (R411). -/
theorem readStat_eq_sum (s : State) :
    s.readStat = (if s.params.unusedBit then 0x80 else 0) + BitVec.ofNat 8 (8 * s.ppu.statEn.toNat) +
      (if s.ppu.ly = s.ppu.lyc then 4 else 0) + s.ppu.mode.bits := by
  have hsum : ∀ (u c : Bool) (en : BitVec 4) (m : LcdMode),
      mask u 0x80 ||| (en.setWidth 8 <<< 3) ||| mask c 0x04 ||| m.bits =
        (if u then 0x80 else 0) + BitVec.ofNat 8 (8 * en.toNat) + (if c then 4 else 0) + m.bits := by
    intro u c en m
    cases m <;> revert u c en <;> decide
  rw [State.readStat, State.unusedBits, hsum]
  simp

/-- Settles O43: each address by its register; IF and IE keep five bits, STAT is a sum of fields. -/
theorem ioRegisters : Obligations.IoRegisters := by
  intro s v unused
  have hif : s.set8 0xFF0F v = { s with irq.flags := v.setWidth 5 } :=
    set8_owned s v .irqFlags (by decide)
  have hie : s.set8 0xFFFF v = { s with irq.enable := v.setWidth 5 } := by
    rw [State.set8, route_FFFF]
    rfl
  refine ⟨?writeIf, ?readIf, ?writeIe, ?readIe,
    (peek_owned s .stat (by decide)).trans (readStat_eq_sum s), set8_owned s v .stat (by decide),
    peek_owned s .ly (by decide), set8_owned s v .ly (by decide),
    peek_owned s .lcdc (by decide), peek_owned s .dma (by decide),
    set8_owned s v .scy (by decide), peek_owned s .scy (by decide),
    set8_owned s v .scx (by decide), peek_owned s .scx (by decide),
    set8_owned s v .lyc (by decide), peek_owned s .lyc (by decide),
    set8_owned s v .bgp (by decide), peek_owned s .bgp (by decide),
    set8_owned s v .obp0 (by decide), peek_owned s .obp0 (by decide),
    set8_owned s v .obp1 (by decide), peek_owned s .obp1 (by decide),
    set8_owned s v .wy (by decide), peek_owned s .wy (by decide),
    set8_owned s v .wx (by decide), peek_owned s .wx (by decide)⟩
  case writeIf => rw [hif, setWidth_five]
  case readIf =>
    rw [hif, peek_owned _ .irqFlags (by decide)]
    exact readFive s.params.unusedBit v
  case writeIe => rw [hie, setWidth_five]
  case readIe =>
    rw [hie, State.peek, route_FFFF]
    exact readFive s.params.unusedBit v

/-- Settles O44: the byte is stored in either case, and the LCD-off reset leaves a blank screen. -/
theorem lcdcWrite : Obligations.LcdcWrite := by
  intro s v
  have hwrite : s.set8 0xFF40 v = s.writeLcdc v := set8_owned s v .lcdc (by decide)
  rw [hwrite, State.writeLcdc]
  refine ⟨fun h => by rw [h]; rfl, fun h => ⟨Lcd.blankScreen s.params.gray.g0, by rw [h]; rfl, ?_⟩⟩
  obtain ⟨hlines, hcolumns⟩ := blankScreen_ok s.params.gray.g0
  exact ⟨hlines, fun line hline =>
    ⟨hcolumns line hline, fun px hpx => pixel_of_mem_blankScreen hline hpx⟩⟩

/-! The registers of the colour console (R55 to R57, R65, R476). -/

/-- A write on the CGB is the write of the register; on the DMG it changes nothing (R65). -/
theorem ifCgb_eq (s t : State) : s.ifCgb t = if s.params.model = .cgb then t else s := by
  unfold State.ifCgb
  cases s.params.model <;> rfl

theorem cgbOnly_eq (s : State) (v : Byte) : s.cgbOnly v = if s.params.model = .cgb then v else 0 := by
  unfold State.cgbOnly
  cases s.params.model <;> rfl

/-- The index of a palette register is the low six bits (R56). -/
theorem setWidth_six (v : Byte) : v.setWidth 6 = v.extractLsb' 0 6 :=
  BitVec.setWidth_eq_extractLsb' (by decide)

/-- The bank is the low bit (R55). -/
theorem setWidth_one (v : Byte) : v.setWidth 1 = v.extractLsb' 0 1 :=
  BitVec.setWidth_eq_extractLsb' (by decide)

/-- BCPS and OCPS read as the sum of their fields (R56). -/
theorem readPalIndex_eq_sum (s : State) (inc : Bool) (idx : BitVec 6) :
    s.readPalIndex inc idx =
      (if inc then 0x80 else 0) + (if s.params.unusedBit then 0x40 else 0) +
        BitVec.ofNat 8 idx.toNat := by
  have hsum : ∀ (c u : Bool) (x : BitVec 6), mask c 0x80 ||| mask u 0x40 ||| x.setWidth 8 =
      (if c then 0x80 else 0) + (if u then 0x40 else 0) + BitVec.ofNat 8 x.toNat := by decide
  exact hsum inc s.params.unusedBit idx

/-- VBK reads as the sum of its fields (R55). -/
theorem readVbk_eq_sum (u : Bool) (bank : BitVec 1) :
    mask u 0xFE ||| bank.setWidth 8 = (if u then 0xFE else 0) + BitVec.ofNat 8 bank.toNat := by
  revert u bank
  decide

/-- The palette index moves on by one modulo 64 (R476). -/
theorem index_add_one (x : BitVec 6) : x + 1 = BitVec.ofNat 6 ((x.toNat + 1) % 64) := by
  apply BitVec.eq_of_toNat_eq
  simp [BitVec.toNat_add]

/-- An access to video RAM reaches the bank that VBK selects on the CGB, bank 0 on the DMG (R91). -/
theorem vram_access (s : State) (v : Byte) {a : Word} (h : 0x8000 ≤ a.toNat) (h' : a.toNat < 0xA000) :
    s.peek a = Memory.read (if s.bank1 then s.mem.vram1 else s.mem.vram0) (a.toNat - 0x8000) ∧
    s.set8 a v = if s.bank1 then
        { s with mem.vram1 := Memory.write s.mem.vram1 (a.toNat - 0x8000) v }
      else { s with mem.vram0 := Memory.write s.mem.vram0 (a.toNat - 0x8000) v } := by
  rw [State.peek, State.set8, route_eq_vram h h']
  refine ⟨?_, rfl⟩
  simp only [State.readRegion, State.readVram]
  split <;> rfl

/-- The registers that only the CGB has (R65). -/
def colourRegs : List (Word × IoReg) :=
  [(0xFF4F, .vbk), (0xFF51, .hdma1), (0xFF52, .hdma2), (0xFF53, .hdma3), (0xFF54, .hdma4),
   (0xFF55, .hdma5), (0xFF68, .bcps), (0xFF69, .bcpd), (0xFF6A, .ocps), (0xFF6B, .ocpd)]

theorem colourRegs_owned : ∀ p ∈ colourRegs, p ∈ ownedRegs := by decide

/-- On the DMG a register of the colour console is absent (R65). -/
theorem colourReg_dmg (s : State) (v : Byte) (hmodel : s.params.model = .dmg) :
    ∀ p ∈ colourRegs, s.peek p.1 = 0 ∧ s.set8 p.1 v = s := by
  intro p hp
  have howned := colourRegs_owned p hp
  rw [peek_owned s p.2 howned, set8_owned s v p.2 howned]
  revert p
  simp [colourRegs, State.readIo, State.writeIo, cgbOnly_eq, ifCgb_eq, hmodel]

/-- On the CGB such a register is stored to and read. -/
theorem set8_cgb {s t : State} (v : Byte) (hmodel : s.params.model = .cgb) (r : IoReg) {a : Word}
    (h : (a, r) ∈ ownedRegs) (hwrite : s.writeIo v r = s.ifCgb t) : s.set8 a v = t := by
  rw [set8_owned s v r h, hwrite, ifCgb_eq, if_pos hmodel]

theorem peek_cgb {s : State} {v : Byte} (hmodel : s.params.model = .cgb) (r : IoReg) {a : Word}
    (h : (a, r) ∈ ownedRegs) (hread : s.readIo r = s.cgbOnly v) : s.peek a = v := by
  rw [peek_owned s r h, hread, cgbOnly_eq, if_pos hmodel]

/-- Settles O45: on the CGB each register by itself, on the DMG all of them at once. -/
theorem colourRegisters : Obligations.ColourRegisters := by
  intro s v a unused
  refine ⟨fun hmodel => ?cgb, fun hmodel => ⟨fun h h' => ?dmgVram, fun ha => ?dmgRegs⟩⟩
  case cgb =>
    have hbank : s.bank1 = true ↔ s.ppu.vbk = 1 := by simp [bank1_iff, hmodel]
    simp only [← setWidth_one, ← setWidth_six, ← index_add_one, ← hbank]
    exact ⟨set8_cgb v hmodel .vbk (by decide) rfl,
      (peek_cgb hmodel .vbk (by decide) rfl).trans (readVbk_eq_sum _ _),
      vram_access s v,
      set8_cgb v hmodel .bcps (by decide) rfl,
      (peek_cgb hmodel .bcps (by decide) rfl).trans (readPalIndex_eq_sum s _ _),
      peek_cgb hmodel .bcpd (by decide) rfl, touch_owned s .bcpd (by decide),
      set8_cgb v hmodel .bcpd (by decide) rfl,
      set8_cgb v hmodel .ocps (by decide) rfl,
      (peek_cgb hmodel .ocps (by decide) rfl).trans (readPalIndex_eq_sum s _ _),
      peek_cgb hmodel .ocpd (by decide) rfl, touch_owned s .ocpd (by decide),
      set8_cgb v hmodel .ocpd (by decide) rfl⟩
  case dmgVram =>
    have hbank : ¬ s.bank1 = true := by simp [bank1_iff, hmodel]
    simpa only [if_neg hbank] using vram_access s v h h'
  case dmgRegs =>
    obtain ⟨p, hp, rfl⟩ : ∃ p ∈ colourRegs, p.1 = a := List.mem_map.mp ha
    exact colourReg_dmg s v hmodel p hp

/-- The low half of a word (R12). -/
theorem lo_eq_extractLsb (w : Word) : lo w = w.extractLsb' 0 8 :=
  BitVec.setWidth_eq_extractLsb' (by decide)

theorem read5_eq (d : Hdma) :
    d.read5 = (if d.active then 0 else 0x80) ||| ((d.remaining - 1) &&& 0x7F) := by
  rw [Hdma.read5]
  cases d.active <;> rfl

/-- What a write to HDMA5 does: start an H-blank transfer, cancel one, or run all blocks (R446,
R447). -/
theorem writeHdma5_eq (s : State) (v : Byte) :
    s.writeHdma5 v =
      if bit v 7 then
        { s with hdma.remaining := (v &&& 0x7F) + 1, hdma.mode := .hdma, hdma.active := true }
      else if s.hdma.active then { s with hdma.active := false }
      else State.hdmaBlocks ((v &&& 0x7F) + 1).toNat
        { s with hdma.remaining := (v &&& 0x7F) + 1, hdma.mode := .gdma } := rfl

/-- Settles O47: each address register by its half, HDMA5 by bit 7 and the transfer active. -/
theorem hdmaRegisters : Obligations.HdmaRegisters := by
  intro s v hmodel
  have h5 : s.set8 0xFF55 v = s.writeHdma5 v := set8_cgb v hmodel .hdma5 (by decide) rfl
  rw [← lo_eq_extractLsb s.hdma.src, ← lo_eq_extractLsb s.hdma.dst, h5, writeHdma5_eq]
  refine ⟨set8_cgb v hmodel .hdma1 (by decide) rfl, set8_cgb v hmodel .hdma2 (by decide) rfl,
    set8_cgb v hmodel .hdma3 (by decide) rfl, set8_cgb v hmodel .hdma4 (by decide) rfl,
    fun hstart => if_pos hstart, fun hstart hactive => ?cancel,
    (peek_cgb hmodel .hdma5 (by decide) rfl).trans (read5_eq s.hdma), ?unused⟩
  case cancel => rw [hstart, hactive]; rfl
  case unused =>
    simp only [List.forall_mem_cons, List.not_mem_nil, false_imp_iff, implies_true, and_true]
    exact ⟨peek_cgb hmodel .hdma1 (by decide) rfl, peek_cgb hmodel .hdma2 (by decide) rfl,
      peek_cgb hmodel .hdma3 (by decide) rfl, peek_cgb hmodel .hdma4 (by decide) rfl⟩

end Sys2Proof.Machine
end

section
/-! The DMA engines (R440, R445 to R449): OAM DMA byte by byte, an HDMA block, and the blocks of a
general-purpose transfer. -/

namespace Sys2Proof.Machine

/-- The memories a transfer stores to are in canonical form. -/
theorem memOk_wf {s : State} (h : s.memOk) :
    s.mem.vram0.wf = true ∧ s.mem.vram1.wf = true ∧ s.mem.oam.wf = true := by
  obtain ⟨hcanonical, -⟩ := h
  simp only [Bool.and_eq_true] at hcanonical
  obtain ⟨⟨⟨⟨⟨⟨⟨-, hvram0⟩, hvram1⟩, -⟩, -⟩, hoam⟩, -⟩, -⟩ := hcanonical
  exact ⟨hvram0, hvram1, hoam⟩

/-! OAM DMA (R440). -/

/-- The source address of byte `i` of an OAM DMA of a page. -/
def oamSource (page : Byte) (i : Nat) : Word := BitVec.ofNat 16 (256 * page.toNat + i)

theorem oamSource_toNat (page : Byte) {i : Nat} (hi : i < 256) :
    (oamSource page i).toNat = 256 * page.toNat + i := by
  have := page.isLt
  rw [oamSource, BitVec.toNat_ofNat]
  omega

theorem word_eq_oamSource (page : Byte) {i : Nat} (hi : i < 256) :
    word page (BitVec.ofNat 8 i) = oamSource page i := by
  apply BitVec.eq_of_toNat_eq
  rw [toNat_word, oamSource_toNat page hi, BitVec.toNat_ofNat]
  omega

/-- OAM changed below `i` is not read as byte `i` of any page (R440): in page 0xFE that byte is OAM's
own byte `i`, in every other page it is not in OAM. -/
theorem peek_oamDma (s : State) (page : Byte) (m : Memory) {i : Nat} (hi : i < 160)
    (hkept : Memory.read m i = Memory.read s.mem.oam i) :
    State.peek { s with mem.oam := m } (oamSource page i) =
      s.peek (oamSource page i) := by
  unfold State.peek
  cases hroute : route (oamSource page i) with
  | oam k =>
    have hk := route_oam hroute
    have hinside : k < 160 := by simpa [hroute, Region.inside] using route_inside (oamSource page i)
    rw [oamSource_toNat page (by omega)] at hk
    obtain rfl : k = i := by omega
    exact hkept
  | io r => cases r <;> rfl
  | _ => rfl

/-- The bytes from `i` on are copied as they stand before the transfer. -/
theorem oamDmaFrom_copies (s : State) (page : Byte)
    (hdraws : ∀ i < 160, s.drawsAt (route (oamSource page i)) = false) (n : Nat) :
    ∀ (i : Nat) (m : Memory), i + n = 160 → m.wf = true →
      (∀ j < i, Memory.read m j = s.peek (oamSource page j)) →
      (∀ j, i ≤ j → Memory.read m j = Memory.read s.mem.oam j) →
      ∃ m', State.oamDmaFrom page n i { s with mem.oam := m } = { s with mem.oam := m' } ∧
        ∀ j < 160, Memory.read m' j = s.peek (oamSource page j) := by
  induction n with
  | zero =>
    intro i m hi _ hcopied _
    obtain rfl : i = 160 := hi
    exact ⟨m, rfl, hcopied⟩
  | succ n ih =>
    intro i m hi hwf hcopied hkept
    have hbyte : State.oamDmaByte { s with mem.oam := m } page i = { s with
        mem.oam := Memory.write m i (s.peek (oamSource page i)) } := by
      have hquiet : State.drawsAt { s with mem.oam := m }
          (route (oamSource page i)) = false := hdraws i (by omega)
      simp only [State.oamDmaByte, State.get8, word_eq_oamSource page (show i < 256 by omega),
        State.touch_of_not_draws _ _ hquiet,
        peek_oamDma s page m (show i < 160 by omega) (hkept i le_rfl)]
    rw [State.oamDmaFrom, hbyte]
    refine ih (i + 1) _ (by omega) (Memory.wf_write m i _ hwf) (fun j hj => ?_) (fun j hj => ?_)
    · rw [Memory.read_write m i j _ hwf]
      split
      · rename_i hji
        rw [hji]
      · exact hcopied j (by omega)
    · rw [Memory.read_write_other m i j _ (by omega)]
      exact hkept j (by omega)

/-- Settles O46: every byte is read before OAM's own byte of that index changes. -/
theorem oamDmaCopies : Obligations.OamDmaCopies := by
  intro s v t
  have hwrite : s.set8 0xFF46 v = s.writeDma v := set8_owned s v .dma (by decide)
  rw [hwrite, State.writeDma]
  refine ⟨fun h => by rw [h], fun h hok hdraws => ?_⟩
  obtain ⟨-, -, hwf⟩ := memOk_wf hok
  rw [h]
  exact oamDmaFrom_copies t v hdraws 160 0 s.mem.oam rfl hwf (fun j hj => absurd hj (by omega))
    fun _ _ => rfl

/-! One HDMA block (R448). -/

/-- A store to video RAM leaves the way to every device. -/
theorem drawsAt_writeVram (s : State) (i : Nat) (v : Byte) (r : Region) :
    (s.writeVram i v).drawsAt r = s.drawsAt r := by
  unfold State.writeVram
  split <;> rfl

/-- A byte of a block whose source no device draws is one store to video RAM. -/
theorem hdmaByte_vram (s : State) {i : Nat} (hok : s.hdmaOk) (hdst : 0x8000 ≤ s.hdma.dst.toNat)
    (hi : i < 16) (hquiet : s.drawsAt (route (s.hdma.src + BitVec.ofNat 16 i)) = false) :
    s.hdmaByte i =
      s.writeVram (s.hdma.dst.toNat - 0x8000 + i) (s.peek (s.hdma.src + BitVec.ofNat 16 i)) := by
  simp only [State.hdmaByte, State.get8, State.touch_of_not_draws _ _ hquiet,
    route_dst s.hdma i hok hdst hi, State.writeMem]

theorem readRegion_writeVram_other (s : State) (i : Nat) (v : Byte) {q : Region} (h : q ≠ .vram i) :
    (s.writeVram i v).readRegion q = s.readRegion q :=
  readRegion_writeMem s v (.vram i) q h (.inr (.inr fun _ h => by cases h))

theorem readRegion_writeVram_same (s : State) (i : Nat) (v : Byte) (hok : s.memOk) :
    (s.writeVram i v).readRegion (.vram i) = v := by
  obtain ⟨hvram0, hvram1, -⟩ := memOk_wf hok
  have hbank : (s.writeVram i v).bank1 = s.bank1 := by
    unfold State.writeVram
    split <;> rfl
  rw [State.readRegion, State.readVram, hbank, State.writeVram]
  split
  · exact Memory.read_write_same _ i v hvram1
  · exact Memory.read_write_same _ i v hvram0

/-- The bytes `i`, ..., `i + n - 1` of a block: each is copied, and no other place changes. -/
theorem hdmaBytes_copies (n i : Nat) (s : State) (hmem : s.memOk) (hok : s.hdmaOk)
    (hdst : 0x8000 ≤ s.hdma.dst.toNat) (hi : i + n ≤ 16)
    (hsrc : ∀ j < 16, s.drawsAt (route (s.hdma.src + BitVec.ofNat 16 j)) = false ∧
      ∀ k, route (s.hdma.src + BitVec.ofNat 16 j) ≠ .vram k) :
    (∀ j, i ≤ j → j < i + n →
      (State.hdmaBytes n i s).readRegion (.vram (s.hdma.dst.toNat - 0x8000 + j)) =
        s.peek (s.hdma.src + BitVec.ofNat 16 j)) ∧
    ∀ q, (∀ j, i ≤ j → j < i + n → q ≠ .vram (s.hdma.dst.toNat - 0x8000 + j)) →
      (State.hdmaBytes n i s).readRegion q = s.readRegion q := by
  induction n generalizing i s with
  | zero => exact ⟨fun j hj hj' => absurd hj' (by omega), fun _ _ => rfl⟩
  | succ n ih =>
    have hbyte := hdmaByte_vram s hok hdst (show i < 16 by omega) (hsrc i (by omega)).1
    have hhdma := State.hdmaByte_hdma s i
    have hread : ∀ j < 16, (s.hdmaByte i).peek (s.hdma.src + BitVec.ofNat 16 j) =
        s.peek (s.hdma.src + BitVec.ofNat 16 j) := fun j hj => by
      rw [hbyte]
      exact readRegion_writeVram_other s _ _ ((hsrc j hj).2 _)
    obtain ⟨hcopied, hother⟩ := ih (i + 1) (s.hdmaByte i) (hdmaBytes_memOk 1 i s hmem)
      (by rw [State.hdmaOk, hhdma]; exact hok) (by rw [hhdma]; exact hdst) (by omega)
      (by rw [hhdma]; intro j hj; rw [hbyte, drawsAt_writeVram]; exact hsrc j hj)
    rw [hhdma] at hcopied hother
    rw [State.hdmaBytes]
    refine ⟨fun j hj hj' => ?_, fun q hq => ?_⟩
    · by_cases hji : j = i
      · subst hji
        rw [hother _ fun k hk _ h => absurd (Region.vram.inj h) (by omega), hbyte,
          readRegion_writeVram_same s _ _ hmem]
      · rw [hcopied j (by omega) (by omega), hread j (by omega)]
    · rw [hother q fun k hk hk' => hq k (by omega) (by omega), hbyte,
        readRegion_writeVram_other s _ _ (hq i le_rfl (by omega))]

/-- HDMA5 is the only register that reads the descriptor (R60). -/
theorem readRegion_hdma (s : State) (d : Hdma) {q : Region} (h : q ≠ .io .hdma5) :
    State.readRegion { s with hdma := d } q = s.readRegion q := by
  cases q with
  | io r =>
    cases r with
    | hdma5 => exact absurd rfl h
    | _ => rfl
  | _ => rfl

theorem hdmaBlock_copy (s : State) (h : s.params.hdmaEngine = .copy) :
    s.hdmaBlock = { State.hdmaBytes 16 0 s with hdma := s.hdma.advance } := by
  simp only [State.hdmaBlock, h, State.hdmaBytes_hdma]

theorem hdmaBlock_registersOnly (s : State) (h : s.params.hdmaEngine = .registersOnly) :
    s.hdmaBlock = { s with hdma := s.hdma.advance } := by
  simp only [State.hdmaBlock, h]

/-- Settles O49: the descriptor by `advance`, the bytes by those of the sixteen single copies. -/
theorem hdmaBlockCopies : Obligations.HdmaBlockCopies := by
  intro s hmem hok hdst t
  have hhdma : t.hdma = s.hdma.advance := State.hdmaBlock_hdma s
  rw [hhdma]
  refine ⟨rfl, advance_dst s.hdma hok hdst, rfl, rfl, rfl, hdmaBlock_registersOnly s,
    fun hcopy hsrc => ?_⟩
  obtain ⟨hcopied, hother⟩ := hdmaBytes_copies 16 0 s hmem hok hdst le_rfl hsrc
  have ht : t = { State.hdmaBytes 16 0 s with hdma := s.hdma.advance } := hdmaBlock_copy s hcopy
  refine ⟨fun i hi => ?_, fun b hb hb5 _ => ?_⟩
  · rw [State.peek, ht, route_dst s.hdma i hok hdst hi, readRegion_hdma _ _ (by simp)]
    exact hcopied i (Nat.zero_le i) (by omega)
  · have hnot5 : route b ≠ .io .hdma5 := fun h => by
      obtain ⟨-, -, hreg⟩ := route_io h
      exact hb5 (BitVec.eq_of_toNat_eq (ioReg_hdma5 hreg))
    rw [State.peek, ht, readRegion_hdma _ _ hnot5]
    refine hother _ fun j _ hj => ?_
    rw [← route_dst s.hdma j hok hdst (by omega)]
    exact hb j (by omega)

/-! The blocks of a general-purpose transfer (R446, R448). -/

/-- A block leaves the descriptor ready for the next one. -/
theorem advance_ready (d : Hdma) (hok : d.ok) (hdst : 0x8000 ≤ d.dst.toNat) (hleft : d.remaining ≠ 0) :
    d.advance.ok ∧ 0x8000 ≤ d.advance.dst.toNat ∧
      d.advance.remaining.toNat = d.remaining.toNat - 1 := by
  refine ⟨advance_ok d hok hleft, by rw [advance_dst d hok hdst]; omega, ?_⟩
  exact BitVec.toNat_sub_of_le (by bv_omega)

/-- What `n` blocks do (R446, R448): the descriptor moves on `n` times, and only video RAM and the
record of draws change with it. -/
theorem hdmaBlocks_run (n : Nat) (s : State) (hok : s.hdmaOk) (hdst : 0x8000 ≤ s.hdma.dst.toNat)
    (hleft : n ≤ s.hdma.remaining.toNat) (hidle : s.hdma.active = false) :
    ∃ d v0 v1 draws,
      State.hdmaBlocks n s =
        { s with hdma := d, mem.vram0 := v0, mem.vram1 := v1, env.draws := draws } ∧
      d.remaining.toNat = s.hdma.remaining.toNat - n ∧ d.active = false ∧
      d.src = s.hdma.src + BitVec.ofNat 16 (16 * n) ∧
      d.dst.toNat = 0x8000 + (s.hdma.dst.toNat - 0x8000 + 16 * n) % 0x2000 := by
  induction n generalizing s with
  | zero =>
    obtain ⟨-, -, hplace, -⟩ := hok
    exact ⟨_, _, _, _, rfl, rfl, hidle, by simp, by omega⟩
  | succ n ih =>
    have hne : s.hdma.remaining ≠ 0 := by bv_omega
    obtain ⟨hok', hdst', hleft'⟩ := advance_ready s.hdma hok hdst hne
    have hmoved := advance_dst s.hdma hok hdst
    have hblock := hdmaBlock_eq s hok hdst
    have hhdma := State.hdmaBlock_hdma s
    obtain ⟨d, v0, v1, draws, hrun, hremaining, hactive, hsrc, hend⟩ :=
      ih s.hdmaBlock (by rw [State.hdmaOk, hhdma]; exact hok') (by rw [hhdma]; exact hdst')
        (by rw [hhdma]; omega) (by rw [hhdma, Hdma.advance, hidle]; rfl)
    rw [hhdma] at hremaining hsrc hend
    refine ⟨d, v0, v1, draws, ?_, by omega, hactive, hsrc.trans ?_, ?_⟩
    · rw [State.hdmaBlocks, hrun, hblock]
    · show s.hdma.src + 16 + _ = _
      rw [BitVec.add_assoc]
      congr 1
      rw [Nat.mul_succ, Nat.add_comm, BitVec.ofNat_add]
      rfl
    · rw [hend, hmoved]
      omega

theorem toNat_lt_of_bit_seven (v : Byte) (h : bit v 7 = false) : v.toNat < 128 := by
  revert v
  decide

/-- Settles O48: the write runs as many blocks as it counts. -/
theorem generalDmaRunsAtOnce : Obligations.GeneralDmaRunsAtOnce := by
  intro s v hmodel hok hdst hgeneral hidle t
  have hlow := toNat_lt_of_bit_seven v hgeneral
  have hcount : ((v &&& 0x7F) + 1).toNat = v.toNat + 1 := by
    rw [blockCount]
    omega
  have ht : t = State.hdmaBlocks (v.toNat + 1)
      { s with hdma.remaining := (v &&& 0x7F) + 1, hdma.mode := .gdma } := by
    have h5 : t = s.writeHdma5 v := set8_cgb v hmodel .hdma5 (by decide) rfl
    rw [h5, writeHdma5_eq, hgeneral, hidle, hcount]
    rfl
  obtain ⟨hsrc, hdst16, hplace, -, -⟩ := hok
  have hok : Hdma.ok { s.hdma with remaining := (v &&& 0x7F) + 1, mode := .gdma } :=
    ⟨hsrc, hdst16, hplace, by show ((v &&& 0x7F) + 1).toNat ≤ 128; omega,
      fun h => by cases hidle.symm.trans h⟩
  obtain ⟨d, v0, v1, draws, hrun, hremaining, hactive, hmoved, hend⟩ := hdmaBlocks_run (v.toNat + 1)
    { s with hdma.remaining := (v &&& 0x7F) + 1, hdma.mode := .gdma } hok hdst hcount.ge hidle
  rw [ht, hrun]
  refine ⟨BitVec.eq_of_toNat_eq ?_, hactive, hmoved, BitVec.eq_of_toNat_eq ?_, rfl⟩
  · rw [hremaining]
    show ((v &&& 0x7F) + 1).toNat - (v.toNat + 1) = 0
    omega
  · rw [hend, BitVec.toNat_ofNat]
    show 0x8000 + (s.hdma.dst.toNat - 0x8000 + 16 * (v.toNat + 1)) % 0x2000 = _
    omega

end Sys2Proof.Machine
end

section
/-! The frames over all instructions (20_memory.md section 2): what an instruction that stores nothing
leaves, and one that stores outside the I/O window. -/

namespace Sys2Proof.Machine

/-- Settles O37: with no store, an instruction makes quiet changes only. -/
theorem nonStoringFrame : Obligations.NonStoringFrame := by
  intro i s t hstores h
  obtain ⟨u, ws, hbefore, hws, hafter⟩ := exec_effect h
  obtain rfl : ws = [] := List.map_eq_nil_iff.mp (hws.trans hstores)
  have hquiet : Quiet s t := hbefore.trans hafter
  exact ⟨hquiet, hquiet.peek⟩

/-- What an instruction that stores outside the I/O window, and not at the place of `b`, keeps: the byte
at `b` and whether a device draws it, the registers of the PPU and of the DMA engines, the interrupt
requests, the screen, the posts and the parameters. -/
structure KeepsAt (b : Word) (s t : State) : Prop where
  peek   : t.peek b = s.peek b
  draws  : t.drawsAt (route b) = s.drawsAt (route b)
  params : t.params = s.params
  flags  : t.irq.flags = s.irq.flags
  ppu    : t.ppu = s.ppu
  hdma   : t.hdma = s.hdma
  lcd    : t.lcd = s.lcd
  posts  : t.env.posts = s.env.posts

theorem KeepsAt.trans {b : Word} {s t u : State} (h : KeepsAt b s t) (k : KeepsAt b t u) :
    KeepsAt b s u :=
  ⟨k.peek.trans h.peek, k.draws.trans h.draws, k.params.trans h.params, k.flags.trans h.flags,
    k.ppu.trans h.ppu, k.hdma.trans h.hdma, k.lcd.trans h.lcd, k.posts.trans h.posts⟩

theorem Quiet.drawsAt {s t : State} (h : Quiet s t) (r : Region) : t.drawsAt r = s.drawsAt r := by
  rw [h]
  cases r <;> rfl

theorem Quiet.keepsAt {b : Word} {s t : State} (h : Quiet s t) (hb : s.drawsAt (route b) = false) :
    KeepsAt b s t where
  peek := h.peek b hb
  draws := h.drawsAt _
  params := h.params
  flags := by rw [h]
  ppu := by rw [h]
  hdma := by rw [h]
  lcd := by rw [h]
  posts := by rw [h]

/-- A store does not change whether a device draws a byte, if the byte is not a cartridge's or the
cartridge is the plain one. -/
theorem drawsAt_writeMem (s : State) (v : Byte) (r q : Region)
    (hcart : s.params.cart = .flat ∨ ∀ n, q ≠ .cart n) :
    (s.writeMem v r).drawsAt q = s.drawsAt q := by
  cases q with
  | cart n =>
    obtain hflat | hnot := hcart
    · simp [State.drawsAt, State.cartKnown, hflat]
    · exact absurd rfl (hnot n)
  | io r => cases r <;> rfl
  | _ => rfl

/-- A store outside the I/O window, to another place than `b`. -/
theorem set8_keepsAt (s : State) {a b : Word} (v : Byte) (hio : ∀ r, route a ≠ .io r)
    (hne : route a ≠ route b) (hcart : s.params.cart = .flat ∨ ∀ n, route b ≠ .cart n) :
    KeepsAt b s (s.set8 a v) := by
  rw [State.set8_of_not_io s a v hio]
  exact ⟨readRegion_writeMem s v _ _ hne.symm (hcart.imp_right .inl), drawsAt_writeMem s v _ _ hcart,
    by simp, by simp, by simp, by simp, by simp, by simp⟩

theorem storeAll_keepsAt {b : Word} (ws : List (Word × Byte)) (s : State)
    (hstores : ∀ a ∈ ws.map Prod.fst, (∀ r, route a ≠ .io r) ∧ route a ≠ route b)
    (hcart : s.params.cart = .flat ∨ ∀ n, route b ≠ .cart n) : KeepsAt b s (s.storeAll ws) := by
  induction ws generalizing s with
  | nil => exact ⟨rfl, rfl, rfl, rfl, rfl, rfl, rfl, rfl⟩
  | cons w ws ih =>
    rw [List.map_cons, List.forall_mem_cons] at hstores
    obtain ⟨⟨hio, hne⟩, hrest⟩ := hstores
    have hfirst := set8_keepsAt s w.2 hio hne hcart
    exact hfirst.trans (ih _ hrest (by rw [hfirst.params]; exact hcart))

/-- Settles O38: quiet changes, then the stores one by one, then quiet changes. -/
theorem storingFrame : Obligations.StoringFrame := by
  intro i s t b h hstores hcart hb
  obtain ⟨u, ws, hbefore, hws, hafter⟩ := exec_effect h
  have hfetched := hbefore.keepsAt hb
  have hstored := hfetched.trans
    (storeAll_keepsAt ws u (hws ▸ hstores) (by rw [hfetched.params]; exact hcart))
  have hkept := hstored.trans (hafter.keepsAt (hstored.draws.trans hb))
  exact ⟨hkept.peek, hkept.params, hkept.flags, hkept.ppu, hkept.hdma, hkept.lcd, hkept.posts⟩

end Sys2Proof.Machine
end

section
/-! The PPU's timing (50_ppu_timing.md): one dot, the actions of a mode change, what a tick leaves, and
the events of a frame. -/

namespace Sys2Proof.Machine

/-! One dot (R402, R421, R423). -/

theorem updateMode_eq (s : State) :
    s.updateMode = if modeOf s.ppu.ly.toNat s.ppu.dots = s.ppu.mode then s
      else State.enterMode { s with ppu.mode := modeOf s.ppu.ly.toNat s.ppu.dots }
        (modeOf s.ppu.ly.toNat s.ppu.dots) := rfl

theorem advanceDot_mode (s : State) : s.advanceDot.ppu.mode = s.ppu.mode := by
  rw [State.advanceDot_eq]

/-- Settles O50: the dot counter by `advanceDot`, the mode and its actions by `updateMode`. -/
theorem dotStep : Obligations.DotStep := by
  intro s hdots hly t compares u
  have hppu : t.ppu = { s.ppu with
      dots := s.advanceDot.ppu.dots
      ly := s.advanceDot.ppu.ly
      mode := modeOf s.advanceDot.ppu.ly.toNat s.advanceDot.ppu.dots } := s.dotStep_ppu
  have hu : u = { s.advanceDot with ppu.mode := t.ppu.mode } := by
    have hflags := s.advanceDot_flags
    simp only [u, compares, hppu, ← hflags]
    conv_rhs => rw [State.advanceDot_eq]
  refine ⟨?dots, ?line, ?mode, ?others, ?actions⟩
  case dots =>
    rw [hppu]
    exact s.advanceDot_dots hdots
  case line =>
    rw [hppu]
    exact s.advanceDot_ly
  case mode =>
    rw [hppu]
    rfl
  case others => rw [hppu]
  case actions =>
    have hmode : t.ppu.mode = modeOf s.advanceDot.ppu.ly.toNat s.advanceDot.ppu.dots := by rw [hppu]
    rw [hu, hmode]
    show s.advanceDot.updateMode = _
    rw [updateMode_eq, advanceDot_mode]
    split
    · rename_i hsame
      rw [hsame, ← advanceDot_mode]
    · rfl

/-! A change of mode (R422, R449, R505). -/

theorem hdmaAtHblank_eq (s : State) :
    s.hdmaAtHblank =
      if s.params.model = .cgb ∧ s.hdma.active = true ∧ s.hdma.mode = .hdma then s.hdmaBlock
      else s := by
  unfold State.hdmaAtHblank
  cases s.params.model <;> cases s.hdma.active <;> cases s.hdma.mode <;> rfl

/-- An enable of STAT posts the STAT request (R49, R505). -/
theorem requestIf_statBit (s : State) {i : Nat} (h : 3 ≤ i) (h' : i < 7) :
    s.requestIf (s.statBit i) reqStat =
      { s with irq.flags := s.irq.flags ||| (if s.readStat.getLsbD i then 0b00010 else 0) } := by
  rw [State.requestIf_eq, State.readStat_bits s i h h']
  rfl

/-- Settles O51: each mode's requests, then the line and the block of mode 0. -/
theorem modeEntry : Obligations.ModeEntry := by
  intro s stat
  refine ⟨requestIf_statBit s (by decide) (by decide), rfl,
    requestIf_statBit (s.request reqVblank) (by decide) (by decide), ?_⟩
  intro r
  have hr : (s.requestIf (s.statBit 3) reqStat).renderLine s.ppu.ly.toNat = r := by
    rw [requestIf_statBit s (by decide) (by decide)]
    rfl
  have hparams : r.params = s.params := rfl
  have hhdma : r.hdma = s.hdma := rfl
  rw [State.enterMode, hr, hdmaAtHblank_eq, hparams, hhdma]

/-! What a tick leaves (R413, R420, R427). -/

/-- The HDMA engine can store to video RAM only: its descriptor is well-formed, and its destination lies
there or no transfer is active (R59, assumption 15). -/
def Hdma.Placed (d : Hdma) : Prop := d.ok ∧ (0x8000 ≤ d.dst.toNat ∨ d.active = false)

/-- `t` has the memories of `s` but for video RAM, and IE; and its descriptor is still placed. -/
structure VramOnly (s t : State) : Prop where
  enable : t.irq.enable = s.irq.enable
  mem    : t.mem = { s.mem with vram0 := t.mem.vram0, vram1 := t.mem.vram1 }
  placed : t.hdma.Placed

theorem VramOnly.trans {s t u : State} (h : VramOnly s t) (k : VramOnly t u) : VramOnly s u :=
  ⟨k.enable.trans h.enable, by rw [k.mem, h.mem], k.placed⟩

/-- What changes neither IE, a memory nor the descriptor. -/
theorem VramOnly.of_eq {s t : State} (hplaced : s.hdma.Placed) (henable : t.irq.enable = s.irq.enable)
    (hmem : t.mem = s.mem) (hhdma : t.hdma = s.hdma) : VramOnly s t :=
  ⟨henable, by rw [hmem], by rw [hhdma]; exact hplaced⟩

theorem hdmaAtHblank_vramOnly (s : State) (h : s.hdma.Placed) : VramOnly s s.hdmaAtHblank := by
  rw [hdmaAtHblank_eq]
  split
  · rename_i hpaced
    obtain ⟨-, hactive, -⟩ := hpaced
    obtain ⟨hok, hplace⟩ := h
    have hdst : 0x8000 ≤ s.hdma.dst.toNat := hplace.resolve_right (by simp [hactive])
    have hleft : s.hdma.remaining ≠ 0 := hok.2.2.2.2 hactive
    have hblock := hdmaBlock_eq s hok hdst
    refine ⟨by rw [hblock], by rw [hblock], ?_⟩
    rw [State.hdmaBlock_hdma]
    exact ⟨advance_ok _ hok hleft, .inl (by rw [advance_dst _ hok hdst]; omega)⟩
  · exact .of_eq h rfl rfl rfl

theorem enterMode_vramOnly (s : State) (m : LcdMode) (h : s.hdma.Placed) :
    VramOnly s (s.enterMode m) := by
  cases m with
  | hblank =>
    have hline : VramOnly s ((s.requestIf (s.statBit 3) reqStat).renderLine s.ppu.ly.toNat) := by
      rw [State.requestIf_eq]
      exact .of_eq h rfl rfl rfl
    exact hline.trans (hdmaAtHblank_vramOnly _ hline.placed)
  | vblank | oamScan =>
    rw [State.enterMode, State.requestIf_eq]
    exact .of_eq h rfl rfl rfl
  | transfer => exact .of_eq h rfl rfl rfl

theorem dot_vramOnly (s : State) (h : s.hdma.Placed) : VramOnly s s.dot := by
  have hadvance : VramOnly s s.advanceDot := by
    rw [State.advanceDot_eq]
    exact .of_eq h rfl rfl rfl
  unfold State.dot
  split
  · refine hadvance.trans ?_
    rw [State.dotStep, updateMode_eq]
    split
    · exact .of_eq hadvance.placed rfl rfl rfl
    · have hset : VramOnly s.advanceDot { s.advanceDot with
          ppu.mode := modeOf s.advanceDot.ppu.ly.toNat s.advanceDot.ppu.dots } :=
        .of_eq hadvance.placed rfl rfl rfl
      exact hset.trans (enterMode_vramOnly _ _ hset.placed)
  · exact .of_eq h rfl rfl rfl

theorem tick_vramOnly (n : Nat) (s : State) (h : s.hdma.Placed) : VramOnly s (State.tick n s) := by
  induction n generalizing s with
  | zero => exact .of_eq h rfl rfl rfl
  | succ n ih =>
    have hdot := dot_vramOnly s h
    exact hdot.trans (ih s.dot hdot.placed)

/-- Settles O52: field by field, a tick does what its dots do. -/
theorem tickFrame : Obligations.TickFrame := by
  intro s n t
  refine ⟨State.tick_off n s, State.tick_cpu n s, State.tick_params n s, State.tick_cycles n s,
    State.tick_env_posts n s, State.tick_ppu n s, fun hok hplace => ?_⟩
  have htick := tick_vramOnly n s ⟨hok, hplace⟩
  exact ⟨htick.enable, htick.mem⟩

/-! A frame from the clean start (R401, R402, R425). -/

theorem modeOf_eq_vblank (ly dots : Nat) : modeOf ly dots = .vblank ↔ 144 ≤ ly := by
  unfold modeOf
  split_ifs <;> simp_all

/-- VBlank is requested by a dot that enters mode 1, and by no other (R422). -/
theorem dotStep_vblankFlag (s : State) :
    s.dotStep.irq.flags.getLsbD 0 =
      (s.irq.flags.getLsbD 0 || (s.dotStep.ppu.mode == .vblank && s.ppu.mode != .vblank)) := by
  rw [State.dotStep_ppu, ← s.advanceDot_vblankFlag, ← advanceDot_mode, State.dotStep, updateMode_eq]
  split
  · rename_i hsame
    simp [hsame]
  · rename_i hchange
    rw [State.enterMode_vblankFlag]
    by_cases hv : modeOf s.advanceDot.ppu.ly.toNat s.advanceDot.ppu.dots = .vblank
    · rw [hv] at hchange ⊢
      simp [Ne.symm hchange]
    · simp [beq_eq_false_iff_ne.mpr hv]

section
variable {s : State} (hon : bit s.ppu.lcdc 7 = true)
include hon

/-- With the LCD on, the last dot of a tick is a dot step. -/
theorem tick_succ_on (n : Nat) : State.tick (n + 1) s = (State.tick n s).dotStep := by
  have hlcdc : (State.tick n s).ppu.lcdc = s.ppu.lcdc := by rw [State.tick_ppu]
  rw [State.tick_last, State.dot, hlcdc, if_pos hon]

variable (hdots : s.ppu.dots = 0) (hly : s.ppu.ly = 0)
include hdots hly

/-- The place in the frame after `n` dots (R401, R402). -/
theorem tick_place (n : Nat) :
    (State.tick n s).ppu.dots = n % 456 ∧ (State.tick n s).ppu.ly.toNat = n / 456 % 154 := by
  induction n with
  | zero => simp [State.tick, hdots, hly]
  | succ n ih =>
    obtain ⟨ihdots, ihly⟩ := ih
    have hstepDots := (State.tick n s).advanceDot_dots (by omega)
    have hstepLy := (State.tick n s).advanceDot_ly
    rw [tick_succ_on hon, State.dotStep_ppu]
    refine ⟨by rw [hstepDots]; omega, ?_⟩
    rw [hstepLy, ihdots, ihly]
    split <;> omega

/-- After a dot the mode is that of the place (R402, R421). -/
theorem tick_mode {n : Nat} (hn : 1 ≤ n) :
    (State.tick n s).ppu.mode = modeOf (n / 456 % 154) (n % 456) := by
  obtain ⟨hplace, hline⟩ := tick_place hon hdots hly n
  obtain ⟨k, rfl⟩ := Nat.exists_eq_add_of_le' hn
  rw [← hplace, ← hline, tick_succ_on hon, State.dotStep_ppu]

/-- No line before 144 is in mode 1, and the clean start is not either (R402, R425). -/
theorem tick_mode_ne_vblank (hmode : s.ppu.mode = .hblank) {n : Nat} (hn : n < 65664) :
    (State.tick n s).ppu.mode ≠ .vblank := by
  obtain rfl | hpos := Nat.eq_zero_or_pos n
  · simp [State.tick, hmode]
  · rw [tick_mode hon hdots hly hpos, Ne, modeOf_eq_vblank]
    omega

/-- VBlank is requested at the first dot of line 144 (R425). -/
theorem tick_vblankFlag (hmode : s.ppu.mode = .hblank) (n : Nat) :
    (State.tick n s).irq.flags.getLsbD 0 = (s.irq.flags.getLsbD 0 || decide (65664 ≤ n)) := by
  induction n with
  | zero => simp [State.tick]
  | succ n ih =>
    have hbefore := fun m => tick_mode_ne_vblank hon hdots hly hmode (n := m)
    have hstep := tick_succ_on hon n
    rw [hstep, dotStep_vblankFlag, ih, ← hstep]
    obtain hn | rfl | hn : n + 1 < 65664 ∨ n = 65663 ∨ 65664 ≤ n := by omega
    · simp [hbefore _ hn, show ¬65664 ≤ n by omega, show ¬65664 ≤ n + 1 by omega]
    · have hentered : (State.tick 65664 s).ppu.mode = .vblank :=
        (tick_mode hon hdots hly (by decide)).trans ((modeOf_eq_vblank _ _).mpr (by decide))
      simp [hentered, hbefore 65663 (by decide)]
    · simp [hn, show 65664 ≤ n + 1 by omega]

end

/-- Settles O53: each dot moves the place in the frame on by one, and line 144 begins at dot 65,664. -/
theorem frameFromCleanStart : Obligations.FrameFromCleanStart := by
  intro s n hon hdots hly hmode hn t
  obtain ⟨hplace, hline⟩ := tick_place hon hdots hly n
  have hflag := tick_vblankFlag hon hdots hly hmode n
  refine ⟨hplace, hline, tick_mode hon hdots hly hn, fun h => ?_, fun h => ?_⟩
  · rw [hflag, decide_eq_true h, Bool.or_true]
  · rw [hflag, decide_eq_false (by omega), Bool.or_false]

end Sys2Proof.Machine
end

section
/-! The compositor (51_ppu_compositor.md): a line pixel by pixel, the worked background examples, and
the colour mixing formula. -/

namespace Sys2Proof.Machine

/-! The sprite pass (R470 to R473). -/

/-- What a sprite shows at column `x` through its two plane bytes, if it reaches that column and is not
suppressed there (R471 to R473). -/
def State.spriteShows (s : State) (prio : List Prio) (o : Sprite) (low high : Byte) (x : Nat) :
    Option Rgb :=
  let px := x + 8 - o.x.toNat
  let ci := colorIndex low high (if bit o.attr 5 then 7 - px else px)
  if suppressed (prio.getD x ⟨false, 0⟩) o.attr ci then none else some (s.objColor o.attr ci)

/-- Drawing pixel `px` of a sprite changes one column, `o.x + px - 8` (R472). -/
theorem drawSpritePixel_getElem? (s : State) (prio : List Prio) (o : Sprite) (low high : Byte)
    (row : List Rgb) (px : Nat) {x : Nat} (hx : x < 160) (hlen : row.length = 160) :
    (s.drawSpritePixel prio o low high row px)[x]? =
      if o.x.toNat + px = x + 8 then (s.spriteShows prio o low high x).or row[x]? else row[x]? := by
  simp only [State.drawSpritePixel, State.spriteShows]
  by_cases hcol : o.x.toNat + px = x + 8
  · have hpx : x + 8 - o.x.toNat = px := by omega
    have hcolumn : o.x.toNat + px - 8 = x := by omega
    rw [if_pos (by omega), if_pos hcol, hcolumn, hpx]
    generalize colorIndex low high (if bit o.attr 5 then 7 - px else px) = ci
    by_cases hsup : suppressed (prio.getD x ⟨false, 0⟩) o.attr ci = true
    · rw [if_pos hsup, if_pos hsup, Option.none_or]
    · rw [if_neg hsup, if_neg hsup, List.getElem?_set_self (by omega), Option.some_or]
  · rw [if_neg hcol]
    generalize colorIndex low high (if bit o.attr 5 then 7 - px else px) = ci
    split_ifs
    · rfl
    · exact List.getElem?_set_ne (by omega)
    · rfl

/-- The pixels `l` of a sprite are drawn one by one; each shows what the sprite shows at its column. -/
theorem foldl_drawSpritePixel_getElem? (s : State) (prio : List Prio) (o : Sprite) (low high : Byte)
    (l : List Nat) (row : List Rgb) {x : Nat} (hx : x < 160) (hlen : row.length = 160) :
    (l.foldl (s.drawSpritePixel prio o low high) row)[x]? =
      if ∃ px ∈ l, o.x.toNat + px = x + 8 then (s.spriteShows prio o low high x).or row[x]?
      else row[x]? := by
  induction l generalizing row with
  | nil => simp
  | cons px l ih =>
    rw [List.foldl_cons, ih _ (by rw [drawSpritePixel_length, hlen]),
      drawSpritePixel_getElem? s prio o low high row px hx hlen]
    simp only [List.exists_mem_cons_iff]
    by_cases hcol : o.x.toNat + px = x + 8
    · simp only [hcol, true_or, if_true]
      split
      · rw [← Option.or_assoc, Option.or_self]
      · rfl
    · simp only [hcol, false_or, if_false]

/-- An entry draws at a column of a line that it meets, where it shows (R470, R471). -/
theorem spriteAt_eq (s : State) (prio : List Prio) (ly x k : Nat) :
    s.spriteAt prio ly x k =
      if (s.sprite k).onLine s.spriteHeight ly = true ∧
          (s.sprite k).x.toNat ≤ x + 8 ∧ x < (s.sprite k).x.toNat then
        s.spriteShows prio (s.sprite k) (s.spriteRow (s.sprite k) ly).1
          (s.spriteRow (s.sprite k) ly).2 x
      else none := by
  simp only [State.spriteAt, State.spriteShows]
  generalize suppressed _ _ _ = hidden
  cases hidden <;> simp [and_assoc]

/-- OAM entry `k` leaves its pixel on the line, where it draws one. -/
theorem drawSprite_getElem? (s : State) (prio : List Prio) (ly : Nat) (row : List Rgb) (k : Nat)
    {x : Nat} (hx : x < 160) (hlen : row.length = 160) :
    (s.drawSprite prio ly row k)[x]? = (s.spriteAt prio ly x k).or row[x]? := by
  have hreach : (∃ px ∈ List.range 8, (s.sprite k).x.toNat + px = x + 8) ↔
      (s.sprite k).x.toNat ≤ x + 8 ∧ x < (s.sprite k).x.toNat := by
    simp only [List.mem_range]
    exact ⟨fun ⟨px, hpx, hcol⟩ => by omega,
      fun h => ⟨x + 8 - (s.sprite k).x.toNat, by omega, by omega⟩⟩
  have height : [0, 1, 2, 3, 4, 5, 6, 7] = List.range 8 := rfl
  simp only [State.drawSprite, height, spriteAt_eq]
  by_cases hline : (s.sprite k).onLine s.spriteHeight ly = true
  · rw [if_pos hline, foldl_drawSpritePixel_getElem? s prio _ _ _ _ row hx hlen,
      if_congr hreach rfl rfl]
    by_cases h : (s.sprite k).x.toNat ≤ x + 8 ∧ x < (s.sprite k).x.toNat
    · rw [if_pos h, if_pos ⟨hline, h⟩]
    · rw [if_neg h, if_neg fun hand => h hand.2, Option.none_or]
  · rw [if_neg hline, if_neg fun hand => hline hand.1, Option.none_or]

/-- The sprites from `n - 1` down to 0 leave the pixel of the lowest that draws there (R470, R472). -/
theorem spritePass_getElem? (s : State) (prio : List Prio) (ly n : Nat) (row : List Rgb) {x : Nat}
    (hx : x < 160) (hlen : row.length = 160) :
    (s.spritePass prio ly n row)[x]? =
      ((List.range n).findSome? (s.spriteAt prio ly x)).or row[x]? := by
  induction n generalizing row with
  | zero => rfl
  | succ n ih =>
    rw [State.spritePass, ih _ (by rw [drawSprite_length, hlen]),
      drawSprite_getElem? s prio ly row n hx hlen, List.range_succ, List.findSome?_append]
    simp [Option.or_assoc]

/-! A rendered line (R461). -/

theorem bgLine_getElem? (s : State) (ly : Nat) {x : Nat} (hx : x < 160) :
    (s.bgLine ly)[x]? = some (s.bgPixel ly x) := by
  simp [State.bgLine, hx]

theorem lineOf_getElem? (s : State) (ly : Nat) {x : Nat} (hx : x < 160) :
    (s.lineOf ly)[x]? =
      some ((if bit s.ppu.lcdc 1 then
          (List.range 40).findSome? (s.spriteAt ((s.bgLine ly).map Prod.fst) ly x) else none).getD
        (s.bgPixel ly x).2) := by
  have hbg : ((s.bgLine ly).map Prod.snd)[x]? = some (s.bgPixel ly x).2 := by
    rw [List.getElem?_map, bgLine_getElem? s ly hx, Option.map_some]
  simp only [State.lineOf]
  split
  · rw [spritePass_getElem? s _ ly 40 _ hx (by simp [State.bgLine]), hbg]
    generalize (List.range 40).findSome? _ = drawn
    cases drawn <;> rfl
  · exact hbg

/-- Settles O54: the background's record, the sprites over the background, no other line. -/
theorem renderedLine : Obligations.RenderedLine := by
  intro s ly x hok hly hx t prio
  have hset : t.lcd.screen = s.lcd.screen.set ly (s.lineOf ly) := rfl
  refine ⟨rfl, ?_, ?_, fun y hy => ?_, renderLine_screenOk s ly hok⟩
  · show ((s.bgLine ly).map Prod.fst)[x]? = _
    rw [List.getElem?_map, bgLine_getElem? s ly hx, Option.map_some]
  · obtain ⟨hlines, -, -⟩ := hok
    rw [hset, List.getD_eq_getElem?_getD, List.getElem?_set_self (by omega), Option.getD_some]
    exact lineOf_getElem? s ly hx
  · rw [hset]
    exact List.getElem?_set_ne hy.symm

/-! The worked background (R480). -/

/-- A pixel of the first tile of the map, unscrolled, with the window off (R462 to R468). -/
theorem bgPixel_firstTile (s : State) {x : Nat} (hmodel : s.params.model = .dmg) (hscx : s.ppu.scx = 0)
    (hscy : s.ppu.scy = 0) (hmap : Memory.read s.mem.vram0 0x1800 = 0x00) (hx : x < 8)
    (hon : bit s.ppu.lcdc 0 = true) (hbase : bit s.ppu.lcdc 3 = false)
    (hwindow : bit s.ppu.lcdc 5 = false) :
    s.bgPixel 0 x =
      let offset := bgTileOffset (bit s.ppu.lcdc 4) 0x00
      let ci := colorIndex (Memory.read s.mem.vram0 offset) (Memory.read s.mem.vram0 (offset + 1)) x
      (⟨false, ci⟩, s.grayPixel s.ppu.bgp ci) := by
  have hblank : s.bgBlank = false := by simp [State.bgBlank, hmodel, hon]
  have hplace : s.bgPlace 0 x = (0x1800, 0, x) := by
    have : x % 256 = x := by omega
    simp [State.bgPlace, State.inWindow, hwindow, hbase, hscx, hscy, mapBase, this]
  have hattr (a : Nat) : s.bgAttr a = 0 := by simp [State.bgAttr, hmodel]
  have hdiv : x / 8 = 0 := by omega
  have hmod : x % 8 = x := by omega
  rw [State.bgPixel, hblank, hplace]
  simp [State.tilePixel, hattr, hdiv, hmod, hmap, State.vramAt, State.bgColor, hmodel, bit]

/-- The plane bytes 0xFF and 0x00 give colour index 1 in every column (R464). -/
theorem colorIndex_FF_00 (x : Nat) (hx : x < 8) : colorIndex 0xFF 0x00 x = 1 := by
  interval_cases x <;> rfl

/-- Settles O55: the first tile's row, read from 0x8000 or from 0x9000; its index 1 is shade 3 of
0xFC. -/
theorem workedBackground : Obligations.WorkedBackground := by
  intro s x hok hmodel hgray hscx hscy hbgp hmap hx t black
  obtain ⟨-, hprio, hpixel, -⟩ := renderedLine s 0 x hok (by decide) (by omega)
  have hshade : s.grayPixel 0xFC 1 = ⟨0x00, 0x00, 0x00⟩ := by
    rw [State.grayPixel, hgray]
    rfl
  have hblack (hon : bit s.ppu.lcdc 0 = true) (hsprites : bit s.ppu.lcdc 1 = false)
      (hbase : bit s.ppu.lcdc 3 = false) (hwindow : bit s.ppu.lcdc 5 = false) (offset : Nat)
      (hoffset : bgTileOffset (bit s.ppu.lcdc 4) 0x00 = offset)
      (hlow : Memory.read s.mem.vram0 offset = 0xFF)
      (hhigh : Memory.read s.mem.vram0 (offset + 1) = 0x00) : black := by
    have hbg : s.bgPixel 0 x = (⟨false, 1⟩, ⟨0x00, 0x00, 0x00⟩) := by
      rw [bgPixel_firstTile s hmodel hscx hscy hmap hx hon hbase hwindow, hoffset]
      simp only [hlow, hhigh, hbgp, colorIndex_FF_00 x hx, hshade]
    rw [hbg] at hprio hpixel
    rw [hsprites] at hpixel
    exact ⟨hprio, hpixel⟩
  refine ⟨fun hlcdc => ?_, fun hlcdc => ?_⟩ <;> rw [hlcdc] at hblack
  · exact hblack (by decide) (by decide) (by decide) (by decide) 0x0000 (by decide)
  · exact hblack (by decide) (by decide) (by decide) (by decide) 0x1000 (by decide)

/-! The colour mixing formula (R478). -/

theorem field_toNat (w : BitVec 15) (k : Nat) :
    (w.extractLsb' k 5).toNat = w.toNat / 2 ^ k % 32 := by
  rw [BitVec.extractLsb'_toNat, Nat.shiftRight_eq_div_pow]

/-- No sum of the formula overflows its byte. -/
theorem mixFormula_toNat (w : BitVec 15) :
    (mixFormula w).r.toNat = (w.toNat % 32 * 13 + w.toNat / 32 % 32 * 2 + w.toNat / 1024 % 32) / 2 ∧
    (mixFormula w).g.toNat = (w.toNat / 32 % 32 * 3 + w.toNat / 1024 % 32) * 2 ∧
    (mixFormula w).b.toNat =
      (w.toNat % 32 * 3 + w.toNat / 32 % 32 * 2 + w.toNat / 1024 % 32 * 11) / 2 := by
  simp only [mixFormula, BitVec.toNat_ofNat]
  omega

/-- Settles O56: the sums by their fields, each at most 31, and the six values by evaluation. -/
theorem colorMixFormula : Obligations.ColorMixFormula := by
  intro w m e r g b c
  have hr : r = w.toNat % 32 := (field_toNat w 0).trans (by rw [pow_zero, Nat.div_one])
  have hg : g = w.toNat / 32 % 32 := field_toNat w 5
  have hb : b = w.toNat / 1024 % 32 := field_toNat w 10
  obtain ⟨hcr, hcg, hcb⟩ : c.r.toNat = _ ∧ c.g.toNat = _ ∧ c.b.toNat = _ := mixFormula_toNat w
  clear_value r g b c
  subst hr hg hb
  refine ⟨hcr, hcg, hcb, by omega, by omega, by omega, by decide, by decide, by decide, by decide,
    by decide, by decide, ?_⟩
  rw [paletteEntry, BitVec.toNat_setWidth, toNat_word]
  congr 1
  omega

end Sys2Proof.Machine
end
